-- ==== Sys2Proof/Word.lean ====
section
/-!
DEFINITION. The two data types of the hardware (00_scope.md R6, R15).
-/

namespace Sys2Proof

/-- A Byte, 0..255 (R6, `BYTE_WIDTH`). -/
abbrev Byte := BitVec 8

/-- An Address, 0..65535 (R6, `ADDR_WIDTH`). Its arithmetic is modulo 65536 (R59). -/
abbrev Address := BitVec 16

end Sys2Proof
end

