-- ==== Sys2Proof/Syntax.lean ====
section
/-!
DEFINITION. The syntax of the instruction set: the 56 mnemonic tags (R73), the addressing modes (R74), the operand
forms, and one constructor of `Instr` per row of spec/opcode_table.json (R72, R88, R90).
-/

namespace Sys2Proof

/-- The closed set of 56 mnemonic tags (R73). -/
inductive Mnemonic where
  | ADC | AND | ASL | BCC | BCS | BEQ | BIT | BMI
  | BNE | BPL | BRK | BVC | BVS | CLC | CLD | CLI
  | CLV | CMP | CPX | CPY | DEC | DEX | DEY | EOR
  | INC | INX | INY | JMP | JSR | LDA | LDX | LDY
  | LSR | NOP | ORA | PHA | PHP | PLA | PLP | ROL
  | ROR | RTI | RTS | SBC | SEC | SED | SEI | STA
  | STX | STY | TAX | TAY | TSX | TXA | TXS | TYA
  deriving DecidableEq, Repr

/-- The eleven mode codes the resolver recognises (R74). -/
inductive Mode where
  | imp | rel | imm | zp | zpx | zpy | abs | abx | aby | izx | izy
  deriving DecidableEq, Repr

/-- A mode code of an opcode table: one of the eleven, or any other code (R71, R74). `ind` is the NMOS Indirect
mode of byte 0x6C (R90). The numbers of `other` only tell codes apart (91_not_in_source.md N16; log 9). -/
inductive ModeCode where
  | known (m : Mode)
  | ind
  | other (code : Nat)
  deriving DecidableEq, Repr

/-- An operand form that resolves to an address, with its operand bytes (R70, R74): the ten modes but Implicit. -/
inductive Ref where
  | rel (o : Byte)
  | imm (b : Byte)
  | zp (b : Byte)
  | zpx (b : Byte)
  | zpy (b : Byte)
  | abs (lo hi : Byte)
  | abx (lo hi : Byte)
  | aby (lo hi : Byte)
  | izx (b : Byte)
  | izy (b : Byte)
  deriving DecidableEq, Repr

/-- What follows a mnemonic: nothing (Implicit, R76) or an addressed form. -/
inductive Operand where
  | imp
  | ref (r : Ref)
  deriving DecidableEq, Repr

/-- The mode of an addressed form. -/
def Ref.mode : Ref → Mode
  | .rel _ => .rel
  | .imm _ => .imm
  | .zp _ => .zp
  | .zpx _ => .zpx
  | .zpy _ => .zpy
  | .abs _ _ => .abs
  | .abx _ _ => .abx
  | .aby _ _ => .aby
  | .izx _ => .izx
  | .izy _ => .izy

/-- The mode of an operand form. -/
def Operand.mode : Operand → Mode
  | .imp => .imp
  | .ref r => r.mode

/-- The operand bytes in address order (R70): the low byte first in the Absolute class (R82). -/
def Ref.bytes : Ref → List Byte
  | .rel o => [o]
  | .imm b => [b]
  | .zp b => [b]
  | .zpx b => [b]
  | .zpy b => [b]
  | .abs lo hi => [lo, hi]
  | .abx lo hi => [lo, hi]
  | .aby lo hi => [lo, hi]
  | .izx b => [b]
  | .izy b => [b]

/-- The operand bytes; none for Implicit (R76). -/
def Operand.bytes : Operand → List Byte
  | .imp => []
  | .ref r => r.bytes

/-- An instruction: one constructor per row of spec/opcode_table.json, named by the row's mnemonic and mode, with the
row's operand bytes. `jmpInd` is the row of byte 0x6C, which the default table excludes (R90; log 7). -/
inductive Instr where
  -- 41_load_store.md
  | ldaIzx (b : Byte)
  | ldaZp (b : Byte)
  | ldaImm (b : Byte)
  | ldaAbs (lo hi : Byte)
  | ldaIzy (b : Byte)
  | ldaZpx (b : Byte)
  | ldaAby (lo hi : Byte)
  | ldaAbx (lo hi : Byte)
  | ldxImm (b : Byte)
  | ldxZp (b : Byte)
  | ldxAbs (lo hi : Byte)
  | ldxZpy (b : Byte)
  | ldxAby (lo hi : Byte)
  | ldyImm (b : Byte)
  | ldyZp (b : Byte)
  | ldyAbs (lo hi : Byte)
  | ldyZpx (b : Byte)
  | ldyAbx (lo hi : Byte)
  | staIzx (b : Byte)
  | staZp (b : Byte)
  | staAbs (lo hi : Byte)
  | staIzy (b : Byte)
  | staZpx (b : Byte)
  | staAby (lo hi : Byte)
  | staAbx (lo hi : Byte)
  | stxZp (b : Byte)
  | stxAbs (lo hi : Byte)
  | stxZpy (b : Byte)
  | styZp (b : Byte)
  | styAbs (lo hi : Byte)
  | styZpx (b : Byte)
  -- 42_transfer_stack.md
  | tax
  | tay
  | txa
  | tya
  | tsx
  | txs
  | pha
  | php
  | pla
  | plp
  -- 43_alu.md
  | adcIzx (b : Byte)
  | adcZp (b : Byte)
  | adcImm (b : Byte)
  | adcAbs (lo hi : Byte)
  | adcIzy (b : Byte)
  | adcZpx (b : Byte)
  | adcAby (lo hi : Byte)
  | adcAbx (lo hi : Byte)
  | sbcIzx (b : Byte)
  | sbcZp (b : Byte)
  | sbcImm (b : Byte)
  | sbcAbs (lo hi : Byte)
  | sbcIzy (b : Byte)
  | sbcZpx (b : Byte)
  | sbcAby (lo hi : Byte)
  | sbcAbx (lo hi : Byte)
  | andIzx (b : Byte)
  | andZp (b : Byte)
  | andImm (b : Byte)
  | andAbs (lo hi : Byte)
  | andIzy (b : Byte)
  | andZpx (b : Byte)
  | andAby (lo hi : Byte)
  | andAbx (lo hi : Byte)
  | oraIzx (b : Byte)
  | oraZp (b : Byte)
  | oraImm (b : Byte)
  | oraAbs (lo hi : Byte)
  | oraIzy (b : Byte)
  | oraZpx (b : Byte)
  | oraAby (lo hi : Byte)
  | oraAbx (lo hi : Byte)
  | eorIzx (b : Byte)
  | eorZp (b : Byte)
  | eorImm (b : Byte)
  | eorAbs (lo hi : Byte)
  | eorIzy (b : Byte)
  | eorZpx (b : Byte)
  | eorAby (lo hi : Byte)
  | eorAbx (lo hi : Byte)
  | bitZp (b : Byte)
  | bitAbs (lo hi : Byte)
  | cmpIzx (b : Byte)
  | cmpZp (b : Byte)
  | cmpImm (b : Byte)
  | cmpAbs (lo hi : Byte)
  | cmpIzy (b : Byte)
  | cmpZpx (b : Byte)
  | cmpAby (lo hi : Byte)
  | cmpAbx (lo hi : Byte)
  | cpxImm (b : Byte)
  | cpxZp (b : Byte)
  | cpxAbs (lo hi : Byte)
  | cpyImm (b : Byte)
  | cpyZp (b : Byte)
  | cpyAbs (lo hi : Byte)
  -- 44_incdec.md
  | incZp (b : Byte)
  | incAbs (lo hi : Byte)
  | incZpx (b : Byte)
  | incAbx (lo hi : Byte)
  | decZp (b : Byte)
  | decAbs (lo hi : Byte)
  | decZpx (b : Byte)
  | decAbx (lo hi : Byte)
  | inx
  | iny
  | dex
  | dey
  -- 45_shift.md
  | aslZp (b : Byte)
  | aslImp
  | aslAbs (lo hi : Byte)
  | aslZpx (b : Byte)
  | aslAbx (lo hi : Byte)
  | lsrZp (b : Byte)
  | lsrImp
  | lsrAbs (lo hi : Byte)
  | lsrZpx (b : Byte)
  | lsrAbx (lo hi : Byte)
  | rolZp (b : Byte)
  | rolImp
  | rolAbs (lo hi : Byte)
  | rolZpx (b : Byte)
  | rolAbx (lo hi : Byte)
  | rorZp (b : Byte)
  | rorImp
  | rorAbs (lo hi : Byte)
  | rorZpx (b : Byte)
  | rorAbx (lo hi : Byte)
  -- 46_flags.md
  | clc
  | sec
  | cli
  | sei
  | cld
  | sed
  | clv
  -- 47_control.md
  | jmpAbs (lo hi : Byte)
  | jmpInd (lo hi : Byte)
  | jsr (lo hi : Byte)
  | rts
  | bcc (o : Byte)
  | bcs (o : Byte)
  | beq (o : Byte)
  | bne (o : Byte)
  | bmi (o : Byte)
  | bpl (o : Byte)
  | bvc (o : Byte)
  | bvs (o : Byte)
  -- 48_system.md
  | brk
  | rti
  | nop
  deriving DecidableEq, Repr

/-- The table entry an instruction stands for, with its operand bytes: its mnemonic and operand form. None for the one
row whose mode is not one of the eleven (0x6C, R90). -/
def Instr.form : Instr → Option (Mnemonic × Operand)
  | .ldaIzx b => some (.LDA, .ref (.izx b))
  | .ldaZp b => some (.LDA, .ref (.zp b))
  | .ldaImm b => some (.LDA, .ref (.imm b))
  | .ldaAbs lo hi => some (.LDA, .ref (.abs lo hi))
  | .ldaIzy b => some (.LDA, .ref (.izy b))
  | .ldaZpx b => some (.LDA, .ref (.zpx b))
  | .ldaAby lo hi => some (.LDA, .ref (.aby lo hi))
  | .ldaAbx lo hi => some (.LDA, .ref (.abx lo hi))
  | .ldxImm b => some (.LDX, .ref (.imm b))
  | .ldxZp b => some (.LDX, .ref (.zp b))
  | .ldxAbs lo hi => some (.LDX, .ref (.abs lo hi))
  | .ldxZpy b => some (.LDX, .ref (.zpy b))
  | .ldxAby lo hi => some (.LDX, .ref (.aby lo hi))
  | .ldyImm b => some (.LDY, .ref (.imm b))
  | .ldyZp b => some (.LDY, .ref (.zp b))
  | .ldyAbs lo hi => some (.LDY, .ref (.abs lo hi))
  | .ldyZpx b => some (.LDY, .ref (.zpx b))
  | .ldyAbx lo hi => some (.LDY, .ref (.abx lo hi))
  | .staIzx b => some (.STA, .ref (.izx b))
  | .staZp b => some (.STA, .ref (.zp b))
  | .staAbs lo hi => some (.STA, .ref (.abs lo hi))
  | .staIzy b => some (.STA, .ref (.izy b))
  | .staZpx b => some (.STA, .ref (.zpx b))
  | .staAby lo hi => some (.STA, .ref (.aby lo hi))
  | .staAbx lo hi => some (.STA, .ref (.abx lo hi))
  | .stxZp b => some (.STX, .ref (.zp b))
  | .stxAbs lo hi => some (.STX, .ref (.abs lo hi))
  | .stxZpy b => some (.STX, .ref (.zpy b))
  | .styZp b => some (.STY, .ref (.zp b))
  | .styAbs lo hi => some (.STY, .ref (.abs lo hi))
  | .styZpx b => some (.STY, .ref (.zpx b))
  | .tax => some (.TAX, .imp)
  | .tay => some (.TAY, .imp)
  | .txa => some (.TXA, .imp)
  | .tya => some (.TYA, .imp)
  | .tsx => some (.TSX, .imp)
  | .txs => some (.TXS, .imp)
  | .pha => some (.PHA, .imp)
  | .php => some (.PHP, .imp)
  | .pla => some (.PLA, .imp)
  | .plp => some (.PLP, .imp)
  | .adcIzx b => some (.ADC, .ref (.izx b))
  | .adcZp b => some (.ADC, .ref (.zp b))
  | .adcImm b => some (.ADC, .ref (.imm b))
  | .adcAbs lo hi => some (.ADC, .ref (.abs lo hi))
  | .adcIzy b => some (.ADC, .ref (.izy b))
  | .adcZpx b => some (.ADC, .ref (.zpx b))
  | .adcAby lo hi => some (.ADC, .ref (.aby lo hi))
  | .adcAbx lo hi => some (.ADC, .ref (.abx lo hi))
  | .sbcIzx b => some (.SBC, .ref (.izx b))
  | .sbcZp b => some (.SBC, .ref (.zp b))
  | .sbcImm b => some (.SBC, .ref (.imm b))
  | .sbcAbs lo hi => some (.SBC, .ref (.abs lo hi))
  | .sbcIzy b => some (.SBC, .ref (.izy b))
  | .sbcZpx b => some (.SBC, .ref (.zpx b))
  | .sbcAby lo hi => some (.SBC, .ref (.aby lo hi))
  | .sbcAbx lo hi => some (.SBC, .ref (.abx lo hi))
  | .andIzx b => some (.AND, .ref (.izx b))
  | .andZp b => some (.AND, .ref (.zp b))
  | .andImm b => some (.AND, .ref (.imm b))
  | .andAbs lo hi => some (.AND, .ref (.abs lo hi))
  | .andIzy b => some (.AND, .ref (.izy b))
  | .andZpx b => some (.AND, .ref (.zpx b))
  | .andAby lo hi => some (.AND, .ref (.aby lo hi))
  | .andAbx lo hi => some (.AND, .ref (.abx lo hi))
  | .oraIzx b => some (.ORA, .ref (.izx b))
  | .oraZp b => some (.ORA, .ref (.zp b))
  | .oraImm b => some (.ORA, .ref (.imm b))
  | .oraAbs lo hi => some (.ORA, .ref (.abs lo hi))
  | .oraIzy b => some (.ORA, .ref (.izy b))
  | .oraZpx b => some (.ORA, .ref (.zpx b))
  | .oraAby lo hi => some (.ORA, .ref (.aby lo hi))
  | .oraAbx lo hi => some (.ORA, .ref (.abx lo hi))
  | .eorIzx b => some (.EOR, .ref (.izx b))
  | .eorZp b => some (.EOR, .ref (.zp b))
  | .eorImm b => some (.EOR, .ref (.imm b))
  | .eorAbs lo hi => some (.EOR, .ref (.abs lo hi))
  | .eorIzy b => some (.EOR, .ref (.izy b))
  | .eorZpx b => some (.EOR, .ref (.zpx b))
  | .eorAby lo hi => some (.EOR, .ref (.aby lo hi))
  | .eorAbx lo hi => some (.EOR, .ref (.abx lo hi))
  | .bitZp b => some (.BIT, .ref (.zp b))
  | .bitAbs lo hi => some (.BIT, .ref (.abs lo hi))
  | .cmpIzx b => some (.CMP, .ref (.izx b))
  | .cmpZp b => some (.CMP, .ref (.zp b))
  | .cmpImm b => some (.CMP, .ref (.imm b))
  | .cmpAbs lo hi => some (.CMP, .ref (.abs lo hi))
  | .cmpIzy b => some (.CMP, .ref (.izy b))
  | .cmpZpx b => some (.CMP, .ref (.zpx b))
  | .cmpAby lo hi => some (.CMP, .ref (.aby lo hi))
  | .cmpAbx lo hi => some (.CMP, .ref (.abx lo hi))
  | .cpxImm b => some (.CPX, .ref (.imm b))
  | .cpxZp b => some (.CPX, .ref (.zp b))
  | .cpxAbs lo hi => some (.CPX, .ref (.abs lo hi))
  | .cpyImm b => some (.CPY, .ref (.imm b))
  | .cpyZp b => some (.CPY, .ref (.zp b))
  | .cpyAbs lo hi => some (.CPY, .ref (.abs lo hi))
  | .incZp b => some (.INC, .ref (.zp b))
  | .incAbs lo hi => some (.INC, .ref (.abs lo hi))
  | .incZpx b => some (.INC, .ref (.zpx b))
  | .incAbx lo hi => some (.INC, .ref (.abx lo hi))
  | .decZp b => some (.DEC, .ref (.zp b))
  | .decAbs lo hi => some (.DEC, .ref (.abs lo hi))
  | .decZpx b => some (.DEC, .ref (.zpx b))
  | .decAbx lo hi => some (.DEC, .ref (.abx lo hi))
  | .inx => some (.INX, .imp)
  | .iny => some (.INY, .imp)
  | .dex => some (.DEX, .imp)
  | .dey => some (.DEY, .imp)
  | .aslZp b => some (.ASL, .ref (.zp b))
  | .aslImp => some (.ASL, .imp)
  | .aslAbs lo hi => some (.ASL, .ref (.abs lo hi))
  | .aslZpx b => some (.ASL, .ref (.zpx b))
  | .aslAbx lo hi => some (.ASL, .ref (.abx lo hi))
  | .lsrZp b => some (.LSR, .ref (.zp b))
  | .lsrImp => some (.LSR, .imp)
  | .lsrAbs lo hi => some (.LSR, .ref (.abs lo hi))
  | .lsrZpx b => some (.LSR, .ref (.zpx b))
  | .lsrAbx lo hi => some (.LSR, .ref (.abx lo hi))
  | .rolZp b => some (.ROL, .ref (.zp b))
  | .rolImp => some (.ROL, .imp)
  | .rolAbs lo hi => some (.ROL, .ref (.abs lo hi))
  | .rolZpx b => some (.ROL, .ref (.zpx b))
  | .rolAbx lo hi => some (.ROL, .ref (.abx lo hi))
  | .rorZp b => some (.ROR, .ref (.zp b))
  | .rorImp => some (.ROR, .imp)
  | .rorAbs lo hi => some (.ROR, .ref (.abs lo hi))
  | .rorZpx b => some (.ROR, .ref (.zpx b))
  | .rorAbx lo hi => some (.ROR, .ref (.abx lo hi))
  | .clc => some (.CLC, .imp)
  | .sec => some (.SEC, .imp)
  | .cli => some (.CLI, .imp)
  | .sei => some (.SEI, .imp)
  | .cld => some (.CLD, .imp)
  | .sed => some (.SED, .imp)
  | .clv => some (.CLV, .imp)
  | .jmpAbs lo hi => some (.JMP, .ref (.abs lo hi))
  | .jmpInd _ _ => none
  | .jsr lo hi => some (.JSR, .ref (.abs lo hi))
  | .rts => some (.RTS, .imp)
  | .bcc o => some (.BCC, .ref (.rel o))
  | .bcs o => some (.BCS, .ref (.rel o))
  | .beq o => some (.BEQ, .ref (.rel o))
  | .bne o => some (.BNE, .ref (.rel o))
  | .bmi o => some (.BMI, .ref (.rel o))
  | .bpl o => some (.BPL, .ref (.rel o))
  | .bvc o => some (.BVC, .ref (.rel o))
  | .bvs o => some (.BVS, .ref (.rel o))
  | .brk => some (.BRK, .imp)
  | .rti => some (.RTI, .imp)
  | .nop => some (.NOP, .imp)

end Sys2Proof
end

