-- ==== Sys2Proof/Config.lean ====
section
/-!
DEFINITION. The configuration of the engine (R6, R35; 93_implementation_defined.md section 2): fixed for a run, written
by no instruction, an argument of the parametric engine (log 1). The default values stand in Sys2Proof/Decode.lean.
-/

namespace Sys2Proof

/-- `ARITH_V`: what ADC and SBC do with V (R136). -/
inductive ArithV where
  | signedOverflow
  | preserve
  deriving DecidableEq, Repr

/-- One (opcode byte, mnemonic, mode) triple of the declarative table (R71). An entry flagged `excluded` is skipped at
load: its byte has no entry. -/
structure TableRow where
  opcode : Byte
  mnemonic : Mnemonic
  mode : ModeCode
  excluded : Bool := false
  deriving DecidableEq, Repr

/-- The four named parameters (R6). -/
structure Config where
  /-- `OPCODE_TABLE`, as its declarative list (R71). -/
  opcodeTable : List TableRow
  /-- `UNIMPLEMENTED_SET` (R212). -/
  unimplemented : List Mnemonic
  /-- `ARITH_V` (R136). -/
  arithV : ArithV
  /-- `MAX_STEPS`; none is no ceiling (R106). -/
  maxSteps : Option Nat
  deriving DecidableEq, Repr

end Sys2Proof
end

