-- ==== Sys2Proof/WellFormed.lean ====
section
/-!
DEFINITION. Which instructions the default table has, and which configurations a model accepts.
-/

namespace Sys2Proof

/-- The instruction's mode is one of the eleven, so that the default table has it (R72, R74). Operand bytes carry their
range in their type. Refused: the row of byte 0x6C (R90). -/
def Instr.wellFormed (i : Instr) : Bool :=
  i.form.isSome

/-- A configuration that removes RTI from `UNIMPLEMENTED_SET` is refused: the spec gives RTI no semantics
(R201; 93_implementation_defined.md section 2; log 8). -/
def Config.accepted (c : Config) : Bool :=
  c.unimplemented.contains .RTI

end Sys2Proof
end

