-- ==== Sys2Proof/Decode.lean ====
section
/-!
DEFINITION. The default opcode table and configuration (R6, R72, R88), the decoder (R92, R102), and after it the encoder,
written from the Encoding lines of the instruction rules R111 to R202.
-/

namespace Sys2Proof

/-! ## The default table (R72, R88), one definition per row of the map of R88 that holds entries -/

/-- R88, row 0x. -/
def tableRow0 : List TableRow := [
  { opcode := 0x00, mnemonic := .BRK, mode := .known .imp },
  { opcode := 0x01, mnemonic := .ORA, mode := .known .izx },
  { opcode := 0x05, mnemonic := .ORA, mode := .known .zp },
  { opcode := 0x06, mnemonic := .ASL, mode := .known .zp },
  { opcode := 0x08, mnemonic := .PHP, mode := .known .imp },
  { opcode := 0x09, mnemonic := .ORA, mode := .known .imm },
  { opcode := 0x0A, mnemonic := .ASL, mode := .known .imp },
  { opcode := 0x0D, mnemonic := .ORA, mode := .known .abs },
  { opcode := 0x0E, mnemonic := .ASL, mode := .known .abs } ]

/-- R88, row 1x. -/
def tableRow1 : List TableRow := [
  { opcode := 0x10, mnemonic := .BPL, mode := .known .rel },
  { opcode := 0x11, mnemonic := .ORA, mode := .known .izy },
  { opcode := 0x15, mnemonic := .ORA, mode := .known .zpx },
  { opcode := 0x16, mnemonic := .ASL, mode := .known .zpx },
  { opcode := 0x18, mnemonic := .CLC, mode := .known .imp },
  { opcode := 0x19, mnemonic := .ORA, mode := .known .aby },
  { opcode := 0x1D, mnemonic := .ORA, mode := .known .abx },
  { opcode := 0x1E, mnemonic := .ASL, mode := .known .abx } ]

/-- R88, row 2x. -/
def tableRow2 : List TableRow := [
  { opcode := 0x20, mnemonic := .JSR, mode := .known .abs },
  { opcode := 0x21, mnemonic := .AND, mode := .known .izx },
  { opcode := 0x24, mnemonic := .BIT, mode := .known .zp },
  { opcode := 0x25, mnemonic := .AND, mode := .known .zp },
  { opcode := 0x26, mnemonic := .ROL, mode := .known .zp },
  { opcode := 0x28, mnemonic := .PLP, mode := .known .imp },
  { opcode := 0x29, mnemonic := .AND, mode := .known .imm },
  { opcode := 0x2A, mnemonic := .ROL, mode := .known .imp },
  { opcode := 0x2C, mnemonic := .BIT, mode := .known .abs },
  { opcode := 0x2D, mnemonic := .AND, mode := .known .abs },
  { opcode := 0x2E, mnemonic := .ROL, mode := .known .abs } ]

/-- R88, row 3x. -/
def tableRow3 : List TableRow := [
  { opcode := 0x30, mnemonic := .BMI, mode := .known .rel },
  { opcode := 0x31, mnemonic := .AND, mode := .known .izy },
  { opcode := 0x35, mnemonic := .AND, mode := .known .zpx },
  { opcode := 0x36, mnemonic := .ROL, mode := .known .zpx },
  { opcode := 0x38, mnemonic := .SEC, mode := .known .imp },
  { opcode := 0x39, mnemonic := .AND, mode := .known .aby },
  { opcode := 0x3D, mnemonic := .AND, mode := .known .abx },
  { opcode := 0x3E, mnemonic := .ROL, mode := .known .abx } ]

/-- R88, row 4x. -/
def tableRow4 : List TableRow := [
  { opcode := 0x40, mnemonic := .RTI, mode := .known .imp },
  { opcode := 0x41, mnemonic := .EOR, mode := .known .izx },
  { opcode := 0x45, mnemonic := .EOR, mode := .known .zp },
  { opcode := 0x46, mnemonic := .LSR, mode := .known .zp },
  { opcode := 0x48, mnemonic := .PHA, mode := .known .imp },
  { opcode := 0x49, mnemonic := .EOR, mode := .known .imm },
  { opcode := 0x4A, mnemonic := .LSR, mode := .known .imp },
  { opcode := 0x4C, mnemonic := .JMP, mode := .known .abs },
  { opcode := 0x4D, mnemonic := .EOR, mode := .known .abs },
  { opcode := 0x4E, mnemonic := .LSR, mode := .known .abs } ]

/-- R88, row 5x. -/
def tableRow5 : List TableRow := [
  { opcode := 0x50, mnemonic := .BVC, mode := .known .rel },
  { opcode := 0x51, mnemonic := .EOR, mode := .known .izy },
  { opcode := 0x55, mnemonic := .EOR, mode := .known .zpx },
  { opcode := 0x56, mnemonic := .LSR, mode := .known .zpx },
  { opcode := 0x58, mnemonic := .CLI, mode := .known .imp },
  { opcode := 0x59, mnemonic := .EOR, mode := .known .aby },
  { opcode := 0x5D, mnemonic := .EOR, mode := .known .abx },
  { opcode := 0x5E, mnemonic := .LSR, mode := .known .abx } ]

/-- R88, row 6x; 0x6C carries the exclusion marker (R90). -/
def tableRow6 : List TableRow := [
  { opcode := 0x60, mnemonic := .RTS, mode := .known .imp },
  { opcode := 0x61, mnemonic := .ADC, mode := .known .izx },
  { opcode := 0x65, mnemonic := .ADC, mode := .known .zp },
  { opcode := 0x66, mnemonic := .ROR, mode := .known .zp },
  { opcode := 0x68, mnemonic := .PLA, mode := .known .imp },
  { opcode := 0x69, mnemonic := .ADC, mode := .known .imm },
  { opcode := 0x6A, mnemonic := .ROR, mode := .known .imp },
  { opcode := 0x6C, mnemonic := .JMP, mode := .ind, excluded := true },
  { opcode := 0x6D, mnemonic := .ADC, mode := .known .abs },
  { opcode := 0x6E, mnemonic := .ROR, mode := .known .abs } ]

/-- R88, row 7x. -/
def tableRow7 : List TableRow := [
  { opcode := 0x70, mnemonic := .BVS, mode := .known .rel },
  { opcode := 0x71, mnemonic := .ADC, mode := .known .izy },
  { opcode := 0x75, mnemonic := .ADC, mode := .known .zpx },
  { opcode := 0x76, mnemonic := .ROR, mode := .known .zpx },
  { opcode := 0x78, mnemonic := .SEI, mode := .known .imp },
  { opcode := 0x79, mnemonic := .ADC, mode := .known .aby },
  { opcode := 0x7D, mnemonic := .ADC, mode := .known .abx },
  { opcode := 0x7E, mnemonic := .ROR, mode := .known .abx } ]

/-- R88, row 8x. -/
def tableRow8 : List TableRow := [
  { opcode := 0x81, mnemonic := .STA, mode := .known .izx },
  { opcode := 0x84, mnemonic := .STY, mode := .known .zp },
  { opcode := 0x85, mnemonic := .STA, mode := .known .zp },
  { opcode := 0x86, mnemonic := .STX, mode := .known .zp },
  { opcode := 0x88, mnemonic := .DEY, mode := .known .imp },
  { opcode := 0x8A, mnemonic := .TXA, mode := .known .imp },
  { opcode := 0x8C, mnemonic := .STY, mode := .known .abs },
  { opcode := 0x8D, mnemonic := .STA, mode := .known .abs },
  { opcode := 0x8E, mnemonic := .STX, mode := .known .abs } ]

/-- R88, row 9x. -/
def tableRow9 : List TableRow := [
  { opcode := 0x90, mnemonic := .BCC, mode := .known .rel },
  { opcode := 0x91, mnemonic := .STA, mode := .known .izy },
  { opcode := 0x94, mnemonic := .STY, mode := .known .zpx },
  { opcode := 0x95, mnemonic := .STA, mode := .known .zpx },
  { opcode := 0x96, mnemonic := .STX, mode := .known .zpy },
  { opcode := 0x98, mnemonic := .TYA, mode := .known .imp },
  { opcode := 0x99, mnemonic := .STA, mode := .known .aby },
  { opcode := 0x9A, mnemonic := .TXS, mode := .known .imp },
  { opcode := 0x9D, mnemonic := .STA, mode := .known .abx } ]

/-- R88, row Ax. -/
def tableRowA : List TableRow := [
  { opcode := 0xA0, mnemonic := .LDY, mode := .known .imm },
  { opcode := 0xA1, mnemonic := .LDA, mode := .known .izx },
  { opcode := 0xA2, mnemonic := .LDX, mode := .known .imm },
  { opcode := 0xA4, mnemonic := .LDY, mode := .known .zp },
  { opcode := 0xA5, mnemonic := .LDA, mode := .known .zp },
  { opcode := 0xA6, mnemonic := .LDX, mode := .known .zp },
  { opcode := 0xA8, mnemonic := .TAY, mode := .known .imp },
  { opcode := 0xA9, mnemonic := .LDA, mode := .known .imm },
  { opcode := 0xAA, mnemonic := .TAX, mode := .known .imp },
  { opcode := 0xAC, mnemonic := .LDY, mode := .known .abs },
  { opcode := 0xAD, mnemonic := .LDA, mode := .known .abs },
  { opcode := 0xAE, mnemonic := .LDX, mode := .known .abs } ]

/-- R88, row Bx. -/
def tableRowB : List TableRow := [
  { opcode := 0xB0, mnemonic := .BCS, mode := .known .rel },
  { opcode := 0xB1, mnemonic := .LDA, mode := .known .izy },
  { opcode := 0xB4, mnemonic := .LDY, mode := .known .zpx },
  { opcode := 0xB5, mnemonic := .LDA, mode := .known .zpx },
  { opcode := 0xB6, mnemonic := .LDX, mode := .known .zpy },
  { opcode := 0xB8, mnemonic := .CLV, mode := .known .imp },
  { opcode := 0xB9, mnemonic := .LDA, mode := .known .aby },
  { opcode := 0xBA, mnemonic := .TSX, mode := .known .imp },
  { opcode := 0xBC, mnemonic := .LDY, mode := .known .abx },
  { opcode := 0xBD, mnemonic := .LDA, mode := .known .abx },
  { opcode := 0xBE, mnemonic := .LDX, mode := .known .aby } ]

/-- R88, row Cx. -/
def tableRowC : List TableRow := [
  { opcode := 0xC0, mnemonic := .CPY, mode := .known .imm },
  { opcode := 0xC1, mnemonic := .CMP, mode := .known .izx },
  { opcode := 0xC4, mnemonic := .CPY, mode := .known .zp },
  { opcode := 0xC5, mnemonic := .CMP, mode := .known .zp },
  { opcode := 0xC6, mnemonic := .DEC, mode := .known .zp },
  { opcode := 0xC8, mnemonic := .INY, mode := .known .imp },
  { opcode := 0xC9, mnemonic := .CMP, mode := .known .imm },
  { opcode := 0xCA, mnemonic := .DEX, mode := .known .imp },
  { opcode := 0xCC, mnemonic := .CPY, mode := .known .abs },
  { opcode := 0xCD, mnemonic := .CMP, mode := .known .abs },
  { opcode := 0xCE, mnemonic := .DEC, mode := .known .abs } ]

/-- R88, row Dx. -/
def tableRowD : List TableRow := [
  { opcode := 0xD0, mnemonic := .BNE, mode := .known .rel },
  { opcode := 0xD1, mnemonic := .CMP, mode := .known .izy },
  { opcode := 0xD5, mnemonic := .CMP, mode := .known .zpx },
  { opcode := 0xD6, mnemonic := .DEC, mode := .known .zpx },
  { opcode := 0xD8, mnemonic := .CLD, mode := .known .imp },
  { opcode := 0xD9, mnemonic := .CMP, mode := .known .aby },
  { opcode := 0xDD, mnemonic := .CMP, mode := .known .abx },
  { opcode := 0xDE, mnemonic := .DEC, mode := .known .abx } ]

/-- R88, row Ex. -/
def tableRowE : List TableRow := [
  { opcode := 0xE0, mnemonic := .CPX, mode := .known .imm },
  { opcode := 0xE1, mnemonic := .SBC, mode := .known .izx },
  { opcode := 0xE4, mnemonic := .CPX, mode := .known .zp },
  { opcode := 0xE5, mnemonic := .SBC, mode := .known .zp },
  { opcode := 0xE6, mnemonic := .INC, mode := .known .zp },
  { opcode := 0xE8, mnemonic := .INX, mode := .known .imp },
  { opcode := 0xE9, mnemonic := .SBC, mode := .known .imm },
  { opcode := 0xEA, mnemonic := .NOP, mode := .known .imp },
  { opcode := 0xEC, mnemonic := .CPX, mode := .known .abs },
  { opcode := 0xED, mnemonic := .SBC, mode := .known .abs },
  { opcode := 0xEE, mnemonic := .INC, mode := .known .abs } ]

/-- R88, row Fx. -/
def tableRowF : List TableRow := [
  { opcode := 0xF0, mnemonic := .BEQ, mode := .known .rel },
  { opcode := 0xF1, mnemonic := .SBC, mode := .known .izy },
  { opcode := 0xF5, mnemonic := .SBC, mode := .known .zpx },
  { opcode := 0xF6, mnemonic := .INC, mode := .known .zpx },
  { opcode := 0xF8, mnemonic := .SED, mode := .known .imp },
  { opcode := 0xF9, mnemonic := .SBC, mode := .known .aby },
  { opcode := 0xFD, mnemonic := .SBC, mode := .known .abx },
  { opcode := 0xFE, mnemonic := .INC, mode := .known .abx } ]

/-- The default `OPCODE_TABLE` (R72): the rows of spec/opcode_table.json. -/
def defaultTable : List TableRow :=
  tableRow0 ++ tableRow1 ++ tableRow2 ++ tableRow3 ++ tableRow4 ++ tableRow5 ++ tableRow6 ++ tableRow7 ++
  tableRow8 ++ tableRow9 ++ tableRowA ++ tableRowB ++ tableRowC ++ tableRowD ++ tableRowE ++ tableRowF

/-- The values this hardware takes (R6): the default table, `UNIMPLEMENTED_SET` = {RTI}, `ARITH_V` =
SIGNED_OVERFLOW, no step ceiling. -/
def defaultConfig : Config where
  opcodeTable := defaultTable
  unimplemented := [.RTI]
  arithV := .signedOverflow
  maxSteps := none

/-- The entry of an opcode byte in `OPCODE_TABLE`, the whole byte matched (R70, R71, R102): the first row of the
byte that carries no exclusion marker. None: the byte has no entry. -/
def Config.entry (c : Config) (op : Byte) : Option (Mnemonic × ModeCode) :=
  (c.opcodeTable.find? fun row => row.opcode == op && !row.excluded).map fun row => (row.mnemonic, row.mode)

/-- The operand of a mode, from the two bytes after the opcode, of which it takes none, one or both (R74). -/
def Mode.operand (b1 b2 : Byte) : Mode → Operand
  | .imp => .imp
  | .rel => .ref (.rel b1)
  | .imm => .ref (.imm b1)
  | .zp => .ref (.zp b1)
  | .zpx => .ref (.zpx b1)
  | .zpy => .ref (.zpy b1)
  | .abs => .ref (.abs b1 b2)
  | .abx => .ref (.abx b1 b2)
  | .aby => .ref (.aby b1 b2)
  | .izx => .ref (.izx b1)
  | .izy => .ref (.izy b1)

/-! ## The decoder of the default table -/

/-- An opcode byte and the instruction it begins, given the two bytes after it. -/
structure DecodeRow where
  opcode : Byte
  build : Byte → Byte → Instr

/-- Opcode bytes 0x (R88). -/
def decodeRows0 : List DecodeRow := [
  ⟨0x00, fun _ _ => .brk⟩,
  ⟨0x01, fun b1 _ => .oraIzx b1⟩,
  ⟨0x05, fun b1 _ => .oraZp b1⟩,
  ⟨0x06, fun b1 _ => .aslZp b1⟩,
  ⟨0x08, fun _ _ => .php⟩,
  ⟨0x09, fun b1 _ => .oraImm b1⟩,
  ⟨0x0A, fun _ _ => .aslImp⟩,
  ⟨0x0D, fun b1 b2 => .oraAbs b1 b2⟩,
  ⟨0x0E, fun b1 b2 => .aslAbs b1 b2⟩ ]

/-- Opcode bytes 1x (R88). -/
def decodeRows1 : List DecodeRow := [
  ⟨0x10, fun b1 _ => .bpl b1⟩,
  ⟨0x11, fun b1 _ => .oraIzy b1⟩,
  ⟨0x15, fun b1 _ => .oraZpx b1⟩,
  ⟨0x16, fun b1 _ => .aslZpx b1⟩,
  ⟨0x18, fun _ _ => .clc⟩,
  ⟨0x19, fun b1 b2 => .oraAby b1 b2⟩,
  ⟨0x1D, fun b1 b2 => .oraAbx b1 b2⟩,
  ⟨0x1E, fun b1 b2 => .aslAbx b1 b2⟩ ]

/-- Opcode bytes 2x (R88). -/
def decodeRows2 : List DecodeRow := [
  ⟨0x20, fun b1 b2 => .jsr b1 b2⟩,
  ⟨0x21, fun b1 _ => .andIzx b1⟩,
  ⟨0x24, fun b1 _ => .bitZp b1⟩,
  ⟨0x25, fun b1 _ => .andZp b1⟩,
  ⟨0x26, fun b1 _ => .rolZp b1⟩,
  ⟨0x28, fun _ _ => .plp⟩,
  ⟨0x29, fun b1 _ => .andImm b1⟩,
  ⟨0x2A, fun _ _ => .rolImp⟩,
  ⟨0x2C, fun b1 b2 => .bitAbs b1 b2⟩,
  ⟨0x2D, fun b1 b2 => .andAbs b1 b2⟩,
  ⟨0x2E, fun b1 b2 => .rolAbs b1 b2⟩ ]

/-- Opcode bytes 3x (R88). -/
def decodeRows3 : List DecodeRow := [
  ⟨0x30, fun b1 _ => .bmi b1⟩,
  ⟨0x31, fun b1 _ => .andIzy b1⟩,
  ⟨0x35, fun b1 _ => .andZpx b1⟩,
  ⟨0x36, fun b1 _ => .rolZpx b1⟩,
  ⟨0x38, fun _ _ => .sec⟩,
  ⟨0x39, fun b1 b2 => .andAby b1 b2⟩,
  ⟨0x3D, fun b1 b2 => .andAbx b1 b2⟩,
  ⟨0x3E, fun b1 b2 => .rolAbx b1 b2⟩ ]

/-- Opcode bytes 4x (R88). -/
def decodeRows4 : List DecodeRow := [
  ⟨0x40, fun _ _ => .rti⟩,
  ⟨0x41, fun b1 _ => .eorIzx b1⟩,
  ⟨0x45, fun b1 _ => .eorZp b1⟩,
  ⟨0x46, fun b1 _ => .lsrZp b1⟩,
  ⟨0x48, fun _ _ => .pha⟩,
  ⟨0x49, fun b1 _ => .eorImm b1⟩,
  ⟨0x4A, fun _ _ => .lsrImp⟩,
  ⟨0x4C, fun b1 b2 => .jmpAbs b1 b2⟩,
  ⟨0x4D, fun b1 b2 => .eorAbs b1 b2⟩,
  ⟨0x4E, fun b1 b2 => .lsrAbs b1 b2⟩ ]

/-- Opcode bytes 5x (R88). -/
def decodeRows5 : List DecodeRow := [
  ⟨0x50, fun b1 _ => .bvc b1⟩,
  ⟨0x51, fun b1 _ => .eorIzy b1⟩,
  ⟨0x55, fun b1 _ => .eorZpx b1⟩,
  ⟨0x56, fun b1 _ => .lsrZpx b1⟩,
  ⟨0x58, fun _ _ => .cli⟩,
  ⟨0x59, fun b1 b2 => .eorAby b1 b2⟩,
  ⟨0x5D, fun b1 b2 => .eorAbx b1 b2⟩,
  ⟨0x5E, fun b1 b2 => .lsrAbx b1 b2⟩ ]

/-- Opcode bytes 6x (R88). -/
def decodeRows6 : List DecodeRow := [
  ⟨0x60, fun _ _ => .rts⟩,
  ⟨0x61, fun b1 _ => .adcIzx b1⟩,
  ⟨0x65, fun b1 _ => .adcZp b1⟩,
  ⟨0x66, fun b1 _ => .rorZp b1⟩,
  ⟨0x68, fun _ _ => .pla⟩,
  ⟨0x69, fun b1 _ => .adcImm b1⟩,
  ⟨0x6A, fun _ _ => .rorImp⟩,
  ⟨0x6D, fun b1 b2 => .adcAbs b1 b2⟩,
  ⟨0x6E, fun b1 b2 => .rorAbs b1 b2⟩ ]

/-- Opcode bytes 7x (R88). -/
def decodeRows7 : List DecodeRow := [
  ⟨0x70, fun b1 _ => .bvs b1⟩,
  ⟨0x71, fun b1 _ => .adcIzy b1⟩,
  ⟨0x75, fun b1 _ => .adcZpx b1⟩,
  ⟨0x76, fun b1 _ => .rorZpx b1⟩,
  ⟨0x78, fun _ _ => .sei⟩,
  ⟨0x79, fun b1 b2 => .adcAby b1 b2⟩,
  ⟨0x7D, fun b1 b2 => .adcAbx b1 b2⟩,
  ⟨0x7E, fun b1 b2 => .rorAbx b1 b2⟩ ]

/-- Opcode bytes 8x (R88). -/
def decodeRows8 : List DecodeRow := [
  ⟨0x81, fun b1 _ => .staIzx b1⟩,
  ⟨0x84, fun b1 _ => .styZp b1⟩,
  ⟨0x85, fun b1 _ => .staZp b1⟩,
  ⟨0x86, fun b1 _ => .stxZp b1⟩,
  ⟨0x88, fun _ _ => .dey⟩,
  ⟨0x8A, fun _ _ => .txa⟩,
  ⟨0x8C, fun b1 b2 => .styAbs b1 b2⟩,
  ⟨0x8D, fun b1 b2 => .staAbs b1 b2⟩,
  ⟨0x8E, fun b1 b2 => .stxAbs b1 b2⟩ ]

/-- Opcode bytes 9x (R88). -/
def decodeRows9 : List DecodeRow := [
  ⟨0x90, fun b1 _ => .bcc b1⟩,
  ⟨0x91, fun b1 _ => .staIzy b1⟩,
  ⟨0x94, fun b1 _ => .styZpx b1⟩,
  ⟨0x95, fun b1 _ => .staZpx b1⟩,
  ⟨0x96, fun b1 _ => .stxZpy b1⟩,
  ⟨0x98, fun _ _ => .tya⟩,
  ⟨0x99, fun b1 b2 => .staAby b1 b2⟩,
  ⟨0x9A, fun _ _ => .txs⟩,
  ⟨0x9D, fun b1 b2 => .staAbx b1 b2⟩ ]

/-- Opcode bytes Ax (R88). -/
def decodeRowsA : List DecodeRow := [
  ⟨0xA0, fun b1 _ => .ldyImm b1⟩,
  ⟨0xA1, fun b1 _ => .ldaIzx b1⟩,
  ⟨0xA2, fun b1 _ => .ldxImm b1⟩,
  ⟨0xA4, fun b1 _ => .ldyZp b1⟩,
  ⟨0xA5, fun b1 _ => .ldaZp b1⟩,
  ⟨0xA6, fun b1 _ => .ldxZp b1⟩,
  ⟨0xA8, fun _ _ => .tay⟩,
  ⟨0xA9, fun b1 _ => .ldaImm b1⟩,
  ⟨0xAA, fun _ _ => .tax⟩,
  ⟨0xAC, fun b1 b2 => .ldyAbs b1 b2⟩,
  ⟨0xAD, fun b1 b2 => .ldaAbs b1 b2⟩,
  ⟨0xAE, fun b1 b2 => .ldxAbs b1 b2⟩ ]

/-- Opcode bytes Bx (R88). -/
def decodeRowsB : List DecodeRow := [
  ⟨0xB0, fun b1 _ => .bcs b1⟩,
  ⟨0xB1, fun b1 _ => .ldaIzy b1⟩,
  ⟨0xB4, fun b1 _ => .ldyZpx b1⟩,
  ⟨0xB5, fun b1 _ => .ldaZpx b1⟩,
  ⟨0xB6, fun b1 _ => .ldxZpy b1⟩,
  ⟨0xB8, fun _ _ => .clv⟩,
  ⟨0xB9, fun b1 b2 => .ldaAby b1 b2⟩,
  ⟨0xBA, fun _ _ => .tsx⟩,
  ⟨0xBC, fun b1 b2 => .ldyAbx b1 b2⟩,
  ⟨0xBD, fun b1 b2 => .ldaAbx b1 b2⟩,
  ⟨0xBE, fun b1 b2 => .ldxAby b1 b2⟩ ]

/-- Opcode bytes Cx (R88). -/
def decodeRowsC : List DecodeRow := [
  ⟨0xC0, fun b1 _ => .cpyImm b1⟩,
  ⟨0xC1, fun b1 _ => .cmpIzx b1⟩,
  ⟨0xC4, fun b1 _ => .cpyZp b1⟩,
  ⟨0xC5, fun b1 _ => .cmpZp b1⟩,
  ⟨0xC6, fun b1 _ => .decZp b1⟩,
  ⟨0xC8, fun _ _ => .iny⟩,
  ⟨0xC9, fun b1 _ => .cmpImm b1⟩,
  ⟨0xCA, fun _ _ => .dex⟩,
  ⟨0xCC, fun b1 b2 => .cpyAbs b1 b2⟩,
  ⟨0xCD, fun b1 b2 => .cmpAbs b1 b2⟩,
  ⟨0xCE, fun b1 b2 => .decAbs b1 b2⟩ ]

/-- Opcode bytes Dx (R88). -/
def decodeRowsD : List DecodeRow := [
  ⟨0xD0, fun b1 _ => .bne b1⟩,
  ⟨0xD1, fun b1 _ => .cmpIzy b1⟩,
  ⟨0xD5, fun b1 _ => .cmpZpx b1⟩,
  ⟨0xD6, fun b1 _ => .decZpx b1⟩,
  ⟨0xD8, fun _ _ => .cld⟩,
  ⟨0xD9, fun b1 b2 => .cmpAby b1 b2⟩,
  ⟨0xDD, fun b1 b2 => .cmpAbx b1 b2⟩,
  ⟨0xDE, fun b1 b2 => .decAbx b1 b2⟩ ]

/-- Opcode bytes Ex (R88). -/
def decodeRowsE : List DecodeRow := [
  ⟨0xE0, fun b1 _ => .cpxImm b1⟩,
  ⟨0xE1, fun b1 _ => .sbcIzx b1⟩,
  ⟨0xE4, fun b1 _ => .cpxZp b1⟩,
  ⟨0xE5, fun b1 _ => .sbcZp b1⟩,
  ⟨0xE6, fun b1 _ => .incZp b1⟩,
  ⟨0xE8, fun _ _ => .inx⟩,
  ⟨0xE9, fun b1 _ => .sbcImm b1⟩,
  ⟨0xEA, fun _ _ => .nop⟩,
  ⟨0xEC, fun b1 b2 => .cpxAbs b1 b2⟩,
  ⟨0xED, fun b1 b2 => .sbcAbs b1 b2⟩,
  ⟨0xEE, fun b1 b2 => .incAbs b1 b2⟩ ]

/-- Opcode bytes Fx (R88). -/
def decodeRowsF : List DecodeRow := [
  ⟨0xF0, fun b1 _ => .beq b1⟩,
  ⟨0xF1, fun b1 _ => .sbcIzy b1⟩,
  ⟨0xF5, fun b1 _ => .sbcZpx b1⟩,
  ⟨0xF6, fun b1 _ => .incZpx b1⟩,
  ⟨0xF8, fun _ _ => .sed⟩,
  ⟨0xF9, fun b1 b2 => .sbcAby b1 b2⟩,
  ⟨0xFD, fun b1 b2 => .sbcAbx b1 b2⟩,
  ⟨0xFE, fun b1 b2 => .incAbx b1 b2⟩ ]

/-- The decoder's rows: the 150 bytes of the default table. -/
def decodeRows : List DecodeRow :=
  decodeRows0 ++ decodeRows1 ++ decodeRows2 ++ decodeRows3 ++ decodeRows4 ++ decodeRows5 ++ decodeRows6 ++ decodeRows7 ++
  decodeRows8 ++ decodeRows9 ++ decodeRowsA ++ decodeRowsB ++ decodeRowsC ++ decodeRowsD ++ decodeRowsE ++ decodeRowsF

/-- Decode the opcode byte `op` followed by `b1` and `b2` (R92, R102). Total; none is "decoded as nothing" (R71),
the case of the 105 bytes of R89 and of 0x6C (R90). -/
def decodeOp (op b1 b2 : Byte) : Option Instr :=
  (decodeRows.find? fun row => row.opcode == op).map fun row => row.build b1 b2

/-- Why a byte string does not begin with an instruction. -/
inductive DecodeError where
  /-- the opcode byte has no entry (R71, R89, R90) -/
  | unknownOpcode (byte : Byte)
  /-- the string ends before the instruction does -/
  | truncated
  deriving DecidableEq, Repr

/-- The operand bytes of an instruction (R70); of 0x6C the two of its table row, which the engine never consumes. -/
def Instr.operandBytes (i : Instr) : List Byte :=
  match i.form with
  | some (_, o) => o.bytes
  | none => match i with
    | .jmpInd lo hi => [lo, hi]
    | _ => []

/-- The length in bytes: the opcode byte and the operand bytes (R70). -/
def Instr.length (i : Instr) : Nat :=
  1 + i.operandBytes.length

/-- Decode the instruction at the head of a byte string and return the rest (R92). -/
def decode : List Byte → Except DecodeError (Instr × List Byte)
  | [] => .error .truncated
  | op :: rest =>
    match decodeOp op (rest.getD 0 0) (rest.getD 1 0) with
    | none => .error (.unknownOpcode op)
    | some i =>
      if i.length ≤ rest.length + 1 then .ok (i, rest.drop (i.length - 1)) else .error .truncated

/-! ## The encoder -/

/-- The opcode byte of an instruction, from the Encoding line of its rule. -/
def Instr.opcode : Instr → Byte
  -- LDA (R111)
  | .ldaIzx _ => 0xA1
  | .ldaZp _ => 0xA5
  | .ldaImm _ => 0xA9
  | .ldaAbs _ _ => 0xAD
  | .ldaIzy _ => 0xB1
  | .ldaZpx _ => 0xB5
  | .ldaAby _ _ => 0xB9
  | .ldaAbx _ _ => 0xBD
  -- LDX (R112)
  | .ldxImm _ => 0xA2
  | .ldxZp _ => 0xA6
  | .ldxAbs _ _ => 0xAE
  | .ldxZpy _ => 0xB6
  | .ldxAby _ _ => 0xBE
  -- LDY (R113)
  | .ldyImm _ => 0xA0
  | .ldyZp _ => 0xA4
  | .ldyAbs _ _ => 0xAC
  | .ldyZpx _ => 0xB4
  | .ldyAbx _ _ => 0xBC
  -- STA (R114)
  | .staIzx _ => 0x81
  | .staZp _ => 0x85
  | .staAbs _ _ => 0x8D
  | .staIzy _ => 0x91
  | .staZpx _ => 0x95
  | .staAby _ _ => 0x99
  | .staAbx _ _ => 0x9D
  -- STX (R115)
  | .stxZp _ => 0x86
  | .stxAbs _ _ => 0x8E
  | .stxZpy _ => 0x96
  -- STY (R116)
  | .styZp _ => 0x84
  | .styAbs _ _ => 0x8C
  | .styZpx _ => 0x94
  -- TAX (R121)
  | .tax => 0xAA
  -- TAY (R122)
  | .tay => 0xA8
  -- TXA (R123)
  | .txa => 0x8A
  -- TYA (R124)
  | .tya => 0x98
  -- TSX (R125)
  | .tsx => 0xBA
  -- TXS (R126)
  | .txs => 0x9A
  -- PHA (R127)
  | .pha => 0x48
  -- PHP (R128)
  | .php => 0x08
  -- PLA (R129)
  | .pla => 0x68
  -- PLP (R130)
  | .plp => 0x28
  -- ADC (R137)
  | .adcIzx _ => 0x61
  | .adcZp _ => 0x65
  | .adcImm _ => 0x69
  | .adcAbs _ _ => 0x6D
  | .adcIzy _ => 0x71
  | .adcZpx _ => 0x75
  | .adcAby _ _ => 0x79
  | .adcAbx _ _ => 0x7D
  -- SBC (R138)
  | .sbcIzx _ => 0xE1
  | .sbcZp _ => 0xE5
  | .sbcImm _ => 0xE9
  | .sbcAbs _ _ => 0xED
  | .sbcIzy _ => 0xF1
  | .sbcZpx _ => 0xF5
  | .sbcAby _ _ => 0xF9
  | .sbcAbx _ _ => 0xFD
  -- AND (R139)
  | .andIzx _ => 0x21
  | .andZp _ => 0x25
  | .andImm _ => 0x29
  | .andAbs _ _ => 0x2D
  | .andIzy _ => 0x31
  | .andZpx _ => 0x35
  | .andAby _ _ => 0x39
  | .andAbx _ _ => 0x3D
  -- ORA (R140)
  | .oraIzx _ => 0x01
  | .oraZp _ => 0x05
  | .oraImm _ => 0x09
  | .oraAbs _ _ => 0x0D
  | .oraIzy _ => 0x11
  | .oraZpx _ => 0x15
  | .oraAby _ _ => 0x19
  | .oraAbx _ _ => 0x1D
  -- EOR (R141)
  | .eorIzx _ => 0x41
  | .eorZp _ => 0x45
  | .eorImm _ => 0x49
  | .eorAbs _ _ => 0x4D
  | .eorIzy _ => 0x51
  | .eorZpx _ => 0x55
  | .eorAby _ _ => 0x59
  | .eorAbx _ _ => 0x5D
  -- BIT (R142)
  | .bitZp _ => 0x24
  | .bitAbs _ _ => 0x2C
  -- CMP (R143)
  | .cmpIzx _ => 0xC1
  | .cmpZp _ => 0xC5
  | .cmpImm _ => 0xC9
  | .cmpAbs _ _ => 0xCD
  | .cmpIzy _ => 0xD1
  | .cmpZpx _ => 0xD5
  | .cmpAby _ _ => 0xD9
  | .cmpAbx _ _ => 0xDD
  -- CPX (R144)
  | .cpxImm _ => 0xE0
  | .cpxZp _ => 0xE4
  | .cpxAbs _ _ => 0xEC
  -- CPY (R145)
  | .cpyImm _ => 0xC0
  | .cpyZp _ => 0xC4
  | .cpyAbs _ _ => 0xCC
  -- INC (R151)
  | .incZp _ => 0xE6
  | .incAbs _ _ => 0xEE
  | .incZpx _ => 0xF6
  | .incAbx _ _ => 0xFE
  -- DEC (R152)
  | .decZp _ => 0xC6
  | .decAbs _ _ => 0xCE
  | .decZpx _ => 0xD6
  | .decAbx _ _ => 0xDE
  -- INX (R153)
  | .inx => 0xE8
  -- INY (R154)
  | .iny => 0xC8
  -- DEX (R155)
  | .dex => 0xCA
  -- DEY (R156)
  | .dey => 0x88
  -- ASL (R161)
  | .aslZp _ => 0x06
  | .aslImp => 0x0A
  | .aslAbs _ _ => 0x0E
  | .aslZpx _ => 0x16
  | .aslAbx _ _ => 0x1E
  -- LSR (R162)
  | .lsrZp _ => 0x46
  | .lsrImp => 0x4A
  | .lsrAbs _ _ => 0x4E
  | .lsrZpx _ => 0x56
  | .lsrAbx _ _ => 0x5E
  -- ROL (R163)
  | .rolZp _ => 0x26
  | .rolImp => 0x2A
  | .rolAbs _ _ => 0x2E
  | .rolZpx _ => 0x36
  | .rolAbx _ _ => 0x3E
  -- ROR (R164)
  | .rorZp _ => 0x66
  | .rorImp => 0x6A
  | .rorAbs _ _ => 0x6E
  | .rorZpx _ => 0x76
  | .rorAbx _ _ => 0x7E
  -- CLC (R171)
  | .clc => 0x18
  -- SEC (R172)
  | .sec => 0x38
  -- CLI (R173)
  | .cli => 0x58
  -- SEI (R174)
  | .sei => 0x78
  -- CLD (R175)
  | .cld => 0xD8
  -- SED (R176)
  | .sed => 0xF8
  -- CLV (R177)
  | .clv => 0xB8
  -- JMP (R181)
  | .jmpAbs _ _ => 0x4C
  | .jmpInd _ _ => 0x6C
  -- JSR (R182)
  | .jsr _ _ => 0x20
  -- RTS (R183)
  | .rts => 0x60
  -- BCC (R185)
  | .bcc _ => 0x90
  -- BCS (R186)
  | .bcs _ => 0xB0
  -- BEQ (R187)
  | .beq _ => 0xF0
  -- BNE (R188)
  | .bne _ => 0xD0
  -- BMI (R189)
  | .bmi _ => 0x30
  -- BPL (R190)
  | .bpl _ => 0x10
  -- BVC (R191)
  | .bvc _ => 0x50
  -- BVS (R192)
  | .bvs _ => 0x70
  -- BRK (R200)
  | .brk => 0x00
  -- RTI (R201)
  | .rti => 0x40
  -- NOP (R202)
  | .nop => 0xEA

/-- The bytes of an instruction in address order (R70). -/
def encode (i : Instr) : List Byte :=
  i.opcode :: i.operandBytes

/-! ## Words numbered as spec/opcode_table.json numbers them -/

/-- Byte `k` of an instruction whose bits are the low `nbits` bits of `w`: bit 0 of `w` is the least significant bit of
the first byte, a later byte's bits count on. -/
def tableByte (nbits w k : Nat) : Byte :=
  BitVec.ofNat 8 (w % 2 ^ nbits / 2 ^ (8 * k))

/-- The instruction the decoder reads from a table word: the bytes as the hardware stores them, every bit above `nbits`
zero, up to the longest instruction (3 bytes, R70). -/
def decodeTableWord (nbits w : Nat) : Option Instr :=
  match decode [tableByte nbits w 0, tableByte nbits w 1, tableByte nbits w 2] with
  | .ok (i, _) => some i
  | .error _ => none

end Sys2Proof
end

