-- ==== Sys2Proof/Machine/State.lean ====
section
/-!
DEFINITION. The architectural state (10_state.md R38), the halt reasons (R210), the state after creation (R230), and the
reasons a step can stop.
-/

namespace Sys2Proof.Machine

/-- Why the engine is HALTED, with the payload of R210. `InvalidRegisterAccess` has no constructor, since it cannot occur
(R214; log 12). -/
inductive HaltReason where
  /-- `Break{pc0}`: normal end, raised by BRK (R200) -/
  | brk (pc0 : Address)
  /-- `UnknownOpcode{byte, pc0}`: the fetched byte has no table entry (R211) -/
  | unknownOpcode (byte : Byte) (pc0 : Address)
  /-- `UnimplementedMnemonic{mnemonic, pc0}`: the mnemonic is in `UNIMPLEMENTED_SET` (R212) -/
  | unimplementedMnemonic (mnemonic : Mnemonic) (pc0 : Address)
  /-- `InvalidAddressingMode{code, pc0}`: an unrecognised mode, or no address where one is needed (R213) -/
  | invalidAddressingMode (code : ModeCode) (pc0 : Address)
  deriving DecidableEq, Repr

/-- The run state (R33). -/
inductive RunState where
  | running
  | halted (reason : HaltReason)
  deriving DecidableEq, Repr

/-- The seven flags by name (R24). -/
structure Flags where
  /-- negative -/
  N : Bool
  /-- overflow -/
  V : Bool
  /-- break, a stored bit (R27) -/
  B : Bool
  /-- decimal, no arithmetic effect (R25) -/
  D : Bool
  /-- interrupt-disable, gates nothing (R26) -/
  I : Bool
  /-- zero -/
  Z : Bool
  /-- carry -/
  C : Bool
  deriving DecidableEq, Repr

/-- Memory as (address, byte) pairs in address order; an address not listed reads as 0x00 (R41). The canonical form is
`Memory.wf` in Sys2Proof/Machine/Ops.lean. -/
abbrev Memory := List Host.Cell

/-- The architectural state, complete (R38). -/
structure State where
  /-- accumulator (R20) -/
  A : Byte
  /-- index register X (R20) -/
  X : Byte
  /-- index register Y (R20) -/
  Y : Byte
  /-- the seven flags (R24) -/
  flags : Flags
  /-- stack pointer, an offset into 0x0100..0x01FF (R31) -/
  sp : Byte
  /-- program counter (R32) -/
  pc : Address
  /-- the 65536 bytes (R40) -/
  mem : Memory
  /-- RUNNING or HALTED(reason) (R33) -/
  run : RunState
  deriving DecidableEq, Repr

/-- `create()` (R230): the values of R37. No register assignment here goes through `result`, so Z is 0 although A is 0.
A program is loaded from outside (`State.load`, R44, R231; log 11). -/
def State.reset : State where
  A := 0x00
  X := 0x00
  Y := 0x00
  flags := { N := false, V := false, B := false, D := false, I := false, Z := false, C := false }
  sp := 0xFF
  pc := 0x0600
  mem := []
  run := .running

/-- Why no step is taken. -/
inductive Fault where
  /-- Raised by `step` on a HALTED engine: no step is enabled and the state stays as it is (R215, U12). Safe: the model
  stops where the engine does (log 2). -/
  | engineHalted (reason : HaltReason)
  deriving DecidableEq, Repr

/-- Why the model declines. -/
inductive Refusal where
  /-- Raised by an arm of `exec` whose instruction has no meaning yet (none is left). Safe: nothing is claimed of it. -/
  | notModelled (mnemonic : String)
  /-- Raised by the parametric engine under a configuration without RTI in `UNIMPLEMENTED_SET`, which a model rejects
  (93_implementation_defined.md section 2; log 8). Never raised by `step` or `exec`. Safe: nothing runs. -/
  | configurationWithoutRti
  deriving DecidableEq, Repr

/-- What a step or a meaning answers. -/
abbrev Answer := Host.Outcome State Fault Refusal

end Sys2Proof.Machine
end

