-- ==== Sys2Proof/Machine/Bits.lean ====
section
/-!
DEFINITION. Bit-field, extension and byte-order helpers (00_scope.md R9, R10; 20_memory.md R52).
-/

namespace Sys2Proof.Machine

/-- `zext_16(b)`: a Byte read as an Address (R9). -/
def zext16 (b : Byte) : Address :=
  b.setWidth 16

/-- `sext_16(o)`: `o` if `o < 0x80`, else `o - 256`, modulo 65536 (R9). -/
def sext16 (o : Byte) : Address :=
  o.signExtend 16

/-- `int16([lo, hi]) = lo + hi * 256` (R52). -/
def int16 (lo hi : Byte) : Address :=
  hi ++ lo

/-- `bytes(a)[0] = a & 0xFF` (R52). -/
def lowByte (a : Address) : Byte :=
  a.setWidth 8

/-- `bytes(a)[1] = (a >> 8) & 0xFF` (R52). -/
def highByte (a : Address) : Byte :=
  (a >>> 8).setWidth 8

/-- `Byte(v) = v mod 256` for an integer of any sign (R10, R21). -/
def narrow (v : Int) : Byte :=
  BitVec.ofInt 8 v

/-- A Byte as an unbounded integer (R10). -/
def int (b : Byte) : Int :=
  b.toNat

/-- A flag as 0 or 1 (R10). -/
def bit (f : Bool) : Int :=
  if f then 1 else 0

/-- A flag as the byte 0x00 or 0x01 (R10). -/
def bitByte (f : Bool) : Byte :=
  if f then 1 else 0

end Sys2Proof.Machine
end

