-- ==== Sys2Proof/Machine/Flags.lean ====
section
/-!
DEFINITION. Every flag computation of the spec: `result` (R21), the status byte (R28, R29), carry (R22) and overflow
(R136).
-/

namespace Sys2Proof.Machine

/-- The flag part of `result` for a narrowed value (R21): Z and N from it, no other flag. -/
def Flags.result (f : Flags) (m : Byte) : Flags :=
  { f with Z := m == 0, N := m.getLsbD 7 }

/-- `pack_flags()` (R28); bit 5 is 0. -/
def packFlags (f : Flags) : Byte :=
  bitByte f.N <<< 7 ||| bitByte f.V <<< 6 ||| bitByte f.B <<< 4 ||| bitByte f.D <<< 3 ||| bitByte f.I <<< 2 |||
    bitByte f.Z <<< 1 ||| bitByte f.C

/-- `unpack_flags(p)` by per-bit masking (R29; 90_conflicts.md C1); bit 5 is ignored. -/
def unpackFlags (p : Byte) : Flags where
  N := p.getLsbD 7
  V := p.getLsbD 6
  B := p.getLsbD 4
  D := p.getLsbD 3
  I := p.getLsbD 2
  Z := p.getLsbD 1
  C := p.getLsbD 0

/-- `V_adc(a, M, r)` (R136). -/
def vAdc (a m r : Byte) : Bool :=
  (a ^^^ r) &&& (m ^^^ r) &&& 0x80 != 0

/-- `V_sbc(a, M, r)` (R136). -/
def vSbc (a m r : Byte) : Bool :=
  (a ^^^ m) &&& (a ^^^ r) &&& 0x80 != 0

/-- V after ADC or SBC as `ARITH_V` selects it (R136): the computed overflow, or the value before. -/
def arithmeticV (setting : ArithV) (before overflow : Bool) : Bool :=
  match setting with
  | .signedOverflow => overflow
  | .preserve => before

/-- The flags after a compare of `reg` with `m` (R143): C is `reg >= m`, unsigned; Z and N from the wrapped
difference. -/
def Flags.compare (f : Flags) (reg m : Byte) : Flags :=
  { f.result (narrow (int reg - int m)) with C := decide (int reg ≥ int m) }

end Sys2Proof.Machine
end

