-- ==== Sys2Proof/Machine/Ops.lean ====
section
/-!
DEFINITION. The named operations over memory, registers, stack, pc and run state (20_memory.md, 10_state.md R21,
60_exceptions.md R218).
-/

namespace Sys2Proof.Machine

/-! ## Memory -/

/-- What an address not listed reads as: never-written addresses return 0 (R41). -/
def unlistedByte : Byte := 0x00

/-- The canonical form: addresses strictly rising and below 65536, no entry equal to what an unlisted address reads
as. -/
abbrev Memory.wf (m : Memory) : Prop :=
  m.Pairwise (fun c d => c.1 < d.1) ∧ ∀ c ∈ m, c.1 < 65536 ∧ c.2 ≠ unlistedByte

/-- `MemRead(addr, 1)` (R41). -/
def Memory.read (m : Memory) (a : Address) : Byte :=
  match m.find? fun c => c.1 == a.toNat with
  | some c => c.2
  | none => unlistedByte

/-- Put an entry in address order. -/
def Memory.insert (a : Nat) (v : Byte) : Memory → Memory
  | [] => [(a, v)]
  | c :: m => if a < c.1 then (a, v) :: c :: m else c :: Memory.insert a v m

/-- `MemWrite(addr, 1, v)` (R42). Writing what an unlisted address reads as removes the entry. -/
def Memory.write (m : Memory) (a : Address) (v : Byte) : Memory :=
  let others := m.filter fun c => c.1 != a.toNat
  if v = unlistedByte then others else Memory.insert a.toNat v others

/-- Read one byte of the state's memory (R41). -/
def State.read (s : State) (a : Address) : Byte :=
  Memory.read s.mem a

/-- Write one byte of the state's memory (R42). -/
def State.store (s : State) (a : Address) (v : Byte) : State :=
  { s with mem := Memory.write s.mem a v }

/-! ## Registers, through `result` (R21) -/

/-- `A <- result(m)`, the value already narrowed. -/
def State.writeA (s : State) (m : Byte) : State :=
  { s with A := m, flags := s.flags.result m }

/-- `X <- result(m)`. -/
def State.writeX (s : State) (m : Byte) : State :=
  { s with X := m, flags := s.flags.result m }

/-- `Y <- result(m)`. -/
def State.writeY (s : State) (m : Byte) : State :=
  { s with Y := m, flags := s.flags.result m }

/-- `MemWrite(e, 1, result(m))`: an ALU result that targets memory (R21). -/
def State.storeResult (s : State) (a : Address) (m : Byte) : State :=
  { s with mem := Memory.write s.mem a m, flags := s.flags.result m }

/-- `C <- f` (R22). -/
def State.setC (s : State) (f : Bool) : State :=
  { s with flags := { s.flags with C := f } }

/-- `V <- f` (R23). -/
def State.setV (s : State) (f : Bool) : State :=
  { s with flags := { s.flags with V := f } }

/-- `I <- f` (R23). -/
def State.setI (s : State) (f : Bool) : State :=
  { s with flags := { s.flags with I := f } }

/-- `D <- f` (R25, R170). -/
def State.setD (s : State) (f : Bool) : State :=
  { s with flags := { s.flags with D := f } }

/-! ## Stack (R45 to R47) -/

/-- The address of a stack byte: `0x0100 + sp` (R47). -/
def stackAddress (sp : Byte) : Address :=
  0x0100 + zext16 sp

/-- `Push(v)` (R45). -/
def State.push (s : State) (v : Byte) : State :=
  { s.store (stackAddress s.sp) v with sp := s.sp - 1 }

/-- `Pull()` (R46): the byte, and the state with sp moved. -/
def State.pull (s : State) : Byte × State :=
  (s.read (stackAddress (s.sp + 1)), { s with sp := s.sp + 1 })

/-! ## Program counter (R43, R48 to R51) -/

/-- `n` calls of `Next()` as far as pc goes (R43), modulo 65536 (R59). -/
def State.advance (s : State) (n : Nat) : State :=
  { s with pc := s.pc + BitVec.ofNat 16 n }

/-- `jump(addr)` (R48). -/
def State.jump (s : State) (a : Address) : State :=
  { s with pc := a }

/-- `branch(cond, addr)` (R49). -/
def State.branch (s : State) (cond : Bool) (a : Address) : State :=
  if cond then s.jump a else s

/-- `jsr(addr)` (R50): the low byte of pc is pushed first. -/
def State.jsr (s : State) (a : Address) : State :=
  ((s.push (lowByte s.pc)).push (highByte s.pc)).jump a

/-- `rts()` (R51): the high byte is pulled first; nothing is added. -/
def State.rts (s : State) : State :=
  let (hi, s1) := s.pull
  let (lo, s2) := s1.pull
  s2.jump (int16 lo hi)

/-! ## Halts -/

/-- `raise Halt(reason)` (R215, R218): the run state becomes HALTED(reason) and nothing else changes; a halt saves
nothing and transfers control nowhere. The one operation every halt goes through. A fatal halt is raised on the state
before the fetch, so pc stays pc0 (R100). There is no return from a halt (R215). -/
def State.raise (s : State) (reason : HaltReason) : State :=
  { s with run := .halted reason }

/-! ## Fetch -/

/-- The instruction at pc under the default table (R100): the opcode byte at pc0, the operand bytes after it, modulo
65536. Reads have no side effect (R56), so looking at bytes the mode does not consume changes nothing (log 6). -/
def State.fetch (s : State) : Option Instr :=
  decodeOp (s.read s.pc) (s.read (s.pc + 1)) (s.read (s.pc + 2))

/-- The halt for a fetched byte with no entry (R211): `UnknownOpcode{byte, pc0}`. -/
def State.rejectOpcode (s : State) : State :=
  s.raise (.unknownOpcode (s.read s.pc) s.pc)

/-- The state with a table word's bytes (Decode.lean, `tableByte`) at pc, pc + 1 and pc + 2. -/
def State.placeWord (s : State) (nbits w : Nat) : State :=
  ((s.store s.pc (tableByte nbits w 0)).store (s.pc + 1) (tableByte nbits w 1)).store (s.pc + 2) (tableByte nbits w 2)

end Sys2Proof.Machine
end

