-- ==== Sys2Proof/Machine/Operands.lean ====
section
/-!
DEFINITION. Addressing-mode resolution (30_encoding.md R75 to R86) and the operand byte `M` (40_dispatch.md R104). In
every definition here the state is the one before the fetch, whose pc is pc0 (log 4).
-/

namespace Sys2Proof.Machine

/-- The opcode byte and the operand bytes (R70, R74): 1, 2 or 3. -/
def operandLength (o : Operand) : Nat :=
  1 + o.bytes.length

/-- The state as a handler finds it: pc after the last operand byte (R32, R101). -/
def State.past (s : State) (o : Operand) : State :=
  s.advance (operandLength o)

/-- The pointer in the bytes at `a` and `a + 1`, little-endian (R53, R85, R86). -/
def State.pointer (s : State) (a : Address) : Address :=
  int16 (s.read a) (s.read (a + 1))

/-- The effective address `e` (R77 to R86), 16-bit sums modulo 65536 (R59). The zero-page sums are below 65536 and are not
wrapped to the zero page (R58). -/
def effectiveAddress (r : Ref) (s : State) : Address :=
  match r with
  | .rel o => s.pc + 2 + sext16 o
  | .imm _ => s.pc + 1
  | .zp b => zext16 b
  | .zpx b => zext16 b + zext16 s.X
  | .zpy b => zext16 b + zext16 s.Y
  | .abs lo hi => int16 lo hi
  | .abx lo hi => int16 lo hi + zext16 s.X
  | .aby lo hi => int16 lo hi + zext16 s.Y
  | .izx b => s.pointer (zext16 b + zext16 s.X)
  | .izy b => s.pointer (zext16 b) + zext16 s.Y

/-- The operand byte `M` (R104): the byte at `e`; for Immediate the byte after the opcode, which is the instruction's
own (R78; log 5). -/
def operandByte (r : Ref) (s : State) : Byte :=
  match r with
  | .imm b => b
  | r => s.read (effectiveAddress r s)

/-- `get(e)` of the shifts (R160): A, or the byte at `e`. -/
def getOperand (o : Operand) (s : State) : Byte :=
  match o with
  | .imp => s.A
  | .ref r => operandByte r s

/-- `put(e, v)` of the shifts (R160), in the state after the fetch: `A <- result(v)`, or `result(v)` to the byte at
`e`. -/
def putOperand (o : Operand) (v : Byte) (s : State) : State :=
  match o with
  | .imp => (s.past o).writeA v
  | .ref r => (s.past o).storeResult (effectiveAddress r s) v

end Sys2Proof.Machine
end

