-- ==== Sys2Proof/Machine/Alu.lean ====
section
/-!
DEFINITION. Arithmetic, logic and compares (43_alu.md). All arithmetic is on unbounded integers and then narrowed
(R135); D has no effect (R25).
Of each mnemonic: what it does to the state (`op…`), and below it the meaning of each of its rows (`exec…`).
-/

namespace Sys2Proof.Machine

/-- ADC: t <- A + M + C; C <- (t > 255); V as `ARITH_V` selects; A <- result(t) (R137). -/
def opAdc (setting : ArithV) (r : Ref) (s : State) : State :=
  let m := operandByte r s
  let t := int s.A + int m + bit s.flags.C
  let v := arithmeticV setting s.flags.V (vAdc s.A m (narrow t))
  (((s.past (.ref r)).setC (decide (t > 255))).setV v).writeA (narrow t)

/-- ADC Indexed Indirect (X), 0x61 (R137, R85). -/
def execAdcIzx (b : Byte) (s : State) : Answer :=
  .next (opAdc defaultConfig.arithV (.izx b) s)

/-- ADC Zero Page, 0x65 (R137, R79). -/
def execAdcZp (b : Byte) (s : State) : Answer :=
  .next (opAdc defaultConfig.arithV (.zp b) s)

/-- ADC Immediate, 0x69 (R137, R78). -/
def execAdcImm (b : Byte) (s : State) : Answer :=
  .next (opAdc defaultConfig.arithV (.imm b) s)

/-- ADC Absolute, 0x6D (R137, R82). -/
def execAdcAbs (lo hi : Byte) (s : State) : Answer :=
  .next (opAdc defaultConfig.arithV (.abs lo hi) s)

/-- ADC Indirect Indexed (Y), 0x71 (R137, R86). -/
def execAdcIzy (b : Byte) (s : State) : Answer :=
  .next (opAdc defaultConfig.arithV (.izy b) s)

/-- ADC Zero Page,X, 0x75 (R137, R80). -/
def execAdcZpx (b : Byte) (s : State) : Answer :=
  .next (opAdc defaultConfig.arithV (.zpx b) s)

/-- ADC Absolute,Y, 0x79 (R137, R84). -/
def execAdcAby (lo hi : Byte) (s : State) : Answer :=
  .next (opAdc defaultConfig.arithV (.aby lo hi) s)

/-- ADC Absolute,X, 0x7D (R137, R83). -/
def execAdcAbx (lo hi : Byte) (s : State) : Answer :=
  .next (opAdc defaultConfig.arithV (.abx lo hi) s)

/-- SBC: t <- A - M - (1 - C); C <- (t >= 0); V as `ARITH_V` selects; A <- result(t) (R138). -/
def opSbc (setting : ArithV) (r : Ref) (s : State) : State :=
  let m := operandByte r s
  let t := int s.A - int m - (1 - bit s.flags.C)
  let v := arithmeticV setting s.flags.V (vSbc s.A m (narrow t))
  (((s.past (.ref r)).setC (decide (t ≥ 0))).setV v).writeA (narrow t)

/-- SBC Indexed Indirect (X), 0xE1 (R138, R85). -/
def execSbcIzx (b : Byte) (s : State) : Answer :=
  .next (opSbc defaultConfig.arithV (.izx b) s)

/-- SBC Zero Page, 0xE5 (R138, R79). -/
def execSbcZp (b : Byte) (s : State) : Answer :=
  .next (opSbc defaultConfig.arithV (.zp b) s)

/-- SBC Immediate, 0xE9 (R138, R78). -/
def execSbcImm (b : Byte) (s : State) : Answer :=
  .next (opSbc defaultConfig.arithV (.imm b) s)

/-- SBC Absolute, 0xED (R138, R82). -/
def execSbcAbs (lo hi : Byte) (s : State) : Answer :=
  .next (opSbc defaultConfig.arithV (.abs lo hi) s)

/-- SBC Indirect Indexed (Y), 0xF1 (R138, R86). -/
def execSbcIzy (b : Byte) (s : State) : Answer :=
  .next (opSbc defaultConfig.arithV (.izy b) s)

/-- SBC Zero Page,X, 0xF5 (R138, R80). -/
def execSbcZpx (b : Byte) (s : State) : Answer :=
  .next (opSbc defaultConfig.arithV (.zpx b) s)

/-- SBC Absolute,Y, 0xF9 (R138, R84). -/
def execSbcAby (lo hi : Byte) (s : State) : Answer :=
  .next (opSbc defaultConfig.arithV (.aby lo hi) s)

/-- SBC Absolute,X, 0xFD (R138, R83). -/
def execSbcAbx (lo hi : Byte) (s : State) : Answer :=
  .next (opSbc defaultConfig.arithV (.abx lo hi) s)

/-- AND: A <- result(A & M) (R139). -/
def opAnd (r : Ref) (s : State) : State :=
  (s.past (.ref r)).writeA (s.A &&& operandByte r s)

/-- AND Indexed Indirect (X), 0x21 (R139, R85). -/
def execAndIzx (b : Byte) (s : State) : Answer :=
  .next (opAnd (.izx b) s)

/-- AND Zero Page, 0x25 (R139, R79). -/
def execAndZp (b : Byte) (s : State) : Answer :=
  .next (opAnd (.zp b) s)

/-- AND Immediate, 0x29 (R139, R78). -/
def execAndImm (b : Byte) (s : State) : Answer :=
  .next (opAnd (.imm b) s)

/-- AND Absolute, 0x2D (R139, R82). -/
def execAndAbs (lo hi : Byte) (s : State) : Answer :=
  .next (opAnd (.abs lo hi) s)

/-- AND Indirect Indexed (Y), 0x31 (R139, R86). -/
def execAndIzy (b : Byte) (s : State) : Answer :=
  .next (opAnd (.izy b) s)

/-- AND Zero Page,X, 0x35 (R139, R80). -/
def execAndZpx (b : Byte) (s : State) : Answer :=
  .next (opAnd (.zpx b) s)

/-- AND Absolute,Y, 0x39 (R139, R84). -/
def execAndAby (lo hi : Byte) (s : State) : Answer :=
  .next (opAnd (.aby lo hi) s)

/-- AND Absolute,X, 0x3D (R139, R83). -/
def execAndAbx (lo hi : Byte) (s : State) : Answer :=
  .next (opAnd (.abx lo hi) s)

/-- ORA: A <- result(A | M) (R140). -/
def opOra (r : Ref) (s : State) : State :=
  (s.past (.ref r)).writeA (s.A ||| operandByte r s)

/-- ORA Indexed Indirect (X), 0x01 (R140, R85). -/
def execOraIzx (b : Byte) (s : State) : Answer :=
  .next (opOra (.izx b) s)

/-- ORA Zero Page, 0x05 (R140, R79). -/
def execOraZp (b : Byte) (s : State) : Answer :=
  .next (opOra (.zp b) s)

/-- ORA Immediate, 0x09 (R140, R78). -/
def execOraImm (b : Byte) (s : State) : Answer :=
  .next (opOra (.imm b) s)

/-- ORA Absolute, 0x0D (R140, R82). -/
def execOraAbs (lo hi : Byte) (s : State) : Answer :=
  .next (opOra (.abs lo hi) s)

/-- ORA Indirect Indexed (Y), 0x11 (R140, R86). -/
def execOraIzy (b : Byte) (s : State) : Answer :=
  .next (opOra (.izy b) s)

/-- ORA Zero Page,X, 0x15 (R140, R80). -/
def execOraZpx (b : Byte) (s : State) : Answer :=
  .next (opOra (.zpx b) s)

/-- ORA Absolute,Y, 0x19 (R140, R84). -/
def execOraAby (lo hi : Byte) (s : State) : Answer :=
  .next (opOra (.aby lo hi) s)

/-- ORA Absolute,X, 0x1D (R140, R83). -/
def execOraAbx (lo hi : Byte) (s : State) : Answer :=
  .next (opOra (.abx lo hi) s)

/-- EOR: A <- result(A ^ M) (R141). -/
def opEor (r : Ref) (s : State) : State :=
  (s.past (.ref r)).writeA (s.A ^^^ operandByte r s)

/-- EOR Indexed Indirect (X), 0x41 (R141, R85). -/
def execEorIzx (b : Byte) (s : State) : Answer :=
  .next (opEor (.izx b) s)

/-- EOR Zero Page, 0x45 (R141, R79). -/
def execEorZp (b : Byte) (s : State) : Answer :=
  .next (opEor (.zp b) s)

/-- EOR Immediate, 0x49 (R141, R78). -/
def execEorImm (b : Byte) (s : State) : Answer :=
  .next (opEor (.imm b) s)

/-- EOR Absolute, 0x4D (R141, R82). -/
def execEorAbs (lo hi : Byte) (s : State) : Answer :=
  .next (opEor (.abs lo hi) s)

/-- EOR Indirect Indexed (Y), 0x51 (R141, R86). -/
def execEorIzy (b : Byte) (s : State) : Answer :=
  .next (opEor (.izy b) s)

/-- EOR Zero Page,X, 0x55 (R141, R80). -/
def execEorZpx (b : Byte) (s : State) : Answer :=
  .next (opEor (.zpx b) s)

/-- EOR Absolute,Y, 0x59 (R141, R84). -/
def execEorAby (lo hi : Byte) (s : State) : Answer :=
  .next (opEor (.aby lo hi) s)

/-- EOR Absolute,X, 0x5D (R141, R83). -/
def execEorAbx (lo hi : Byte) (s : State) : Answer :=
  .next (opEor (.abx lo hi) s)

/-- BIT: Z <- ((A & M) == 0); N <- M[7]; V <- M[6] (R142). A is not written. -/
def opBit (r : Ref) (s : State) : State :=
  let m := operandByte r s
  { s.past (.ref r) with
    flags := { s.flags with Z := s.A &&& m == 0, N := m.getLsbD 7, V := m.getLsbD 6 } }

/-- BIT Zero Page, 0x24 (R142, R79). -/
def execBitZp (b : Byte) (s : State) : Answer :=
  .next (opBit (.zp b) s)

/-- BIT Absolute, 0x2C (R142, R82). -/
def execBitAbs (lo hi : Byte) (s : State) : Answer :=
  .next (opBit (.abs lo hi) s)

/-- CMP: C <- (A >= M); result(A - M), the value discarded (R143). -/
def opCmp (r : Ref) (s : State) : State :=
  { s.past (.ref r) with flags := s.flags.compare s.A (operandByte r s) }

/-- CMP Indexed Indirect (X), 0xC1 (R143, R85). -/
def execCmpIzx (b : Byte) (s : State) : Answer :=
  .next (opCmp (.izx b) s)

/-- CMP Zero Page, 0xC5 (R143, R79). -/
def execCmpZp (b : Byte) (s : State) : Answer :=
  .next (opCmp (.zp b) s)

/-- CMP Immediate, 0xC9 (R143, R78). -/
def execCmpImm (b : Byte) (s : State) : Answer :=
  .next (opCmp (.imm b) s)

/-- CMP Absolute, 0xCD (R143, R82). -/
def execCmpAbs (lo hi : Byte) (s : State) : Answer :=
  .next (opCmp (.abs lo hi) s)

/-- CMP Indirect Indexed (Y), 0xD1 (R143, R86). -/
def execCmpIzy (b : Byte) (s : State) : Answer :=
  .next (opCmp (.izy b) s)

/-- CMP Zero Page,X, 0xD5 (R143, R80). -/
def execCmpZpx (b : Byte) (s : State) : Answer :=
  .next (opCmp (.zpx b) s)

/-- CMP Absolute,Y, 0xD9 (R143, R84). -/
def execCmpAby (lo hi : Byte) (s : State) : Answer :=
  .next (opCmp (.aby lo hi) s)

/-- CMP Absolute,X, 0xDD (R143, R83). -/
def execCmpAbx (lo hi : Byte) (s : State) : Answer :=
  .next (opCmp (.abx lo hi) s)

/-- CPX: C <- (X >= M); result(X - M), the value discarded (R144). -/
def opCpx (r : Ref) (s : State) : State :=
  { s.past (.ref r) with flags := s.flags.compare s.X (operandByte r s) }

/-- CPX Immediate, 0xE0 (R144, R78). -/
def execCpxImm (b : Byte) (s : State) : Answer :=
  .next (opCpx (.imm b) s)

/-- CPX Zero Page, 0xE4 (R144, R79). -/
def execCpxZp (b : Byte) (s : State) : Answer :=
  .next (opCpx (.zp b) s)

/-- CPX Absolute, 0xEC (R144, R82). -/
def execCpxAbs (lo hi : Byte) (s : State) : Answer :=
  .next (opCpx (.abs lo hi) s)

/-- CPY: C <- (Y >= M); result(Y - M), the value discarded (R145). -/
def opCpy (r : Ref) (s : State) : State :=
  { s.past (.ref r) with flags := s.flags.compare s.Y (operandByte r s) }

/-- CPY Immediate, 0xC0 (R145, R78). -/
def execCpyImm (b : Byte) (s : State) : Answer :=
  .next (opCpy (.imm b) s)

/-- CPY Zero Page, 0xC4 (R145, R79). -/
def execCpyZp (b : Byte) (s : State) : Answer :=
  .next (opCpy (.zp b) s)

/-- CPY Absolute, 0xCC (R145, R82). -/
def execCpyAbs (lo hi : Byte) (s : State) : Answer :=
  .next (opCpy (.abs lo hi) s)

end Sys2Proof.Machine
end

