-- ==== Sys2Proof/Machine/Control.lean ====
section
/-!
DEFINITION. Jumps, subroutine call and return, branches (47_control.md); no flag, A, X or Y is written (R180).
Of each mnemonic: what it does to the state (`op…`), and below it the meaning of each of its rows (`exec…`).
-/

namespace Sys2Proof.Machine

/-- JMP: pc <- e (R181). -/
def opJmp (r : Ref) (s : State) : State :=
  s.jump (effectiveAddress r s)

/-- JMP Absolute, 0x4C (R181, R82). -/
def execJmpAbs (lo hi : Byte) (s : State) : Answer :=
  .next (opJmp (.abs lo hi) s)

/-- The row of 0x6C (NMOS `JMP ($nnnn)`), which the default table excludes: the step halts with
`UnknownOpcode{0x6C, pc0}` (R90, R211; log 7). -/
def execJmpInd (_lo _hi : Byte) (s : State) : Answer :=
  .next (s.raise (.unknownOpcode 0x6C s.pc))

/-- JSR: jsr(e) (R182): the pushed address is the one after the instruction. -/
def opJsr (r : Ref) (s : State) : State :=
  (s.past (.ref r)).jsr (effectiveAddress r s)

/-- JSR Absolute, 0x20 (R182, R82). -/
def execJsr (lo hi : Byte) (s : State) : Answer :=
  .next (opJsr (.abs lo hi) s)

/-- RTS: rts() (R183). -/
def opRts (o : Operand) (s : State) : State :=
  (s.past o).rts

/-- RTS Implicit, 0x60 (R183, R76). -/
def execRts (s : State) : Answer :=
  .next (opRts .imp s)

/-- BCC: if C == 0: pc <- e (R184, R185). -/
def opBcc (r : Ref) (s : State) : State :=
  (s.past (.ref r)).branch (!s.flags.C) (effectiveAddress r s)

/-- BCC Relative, 0x90 (R185, R77). -/
def execBcc (o : Byte) (s : State) : Answer :=
  .next (opBcc (.rel o) s)

/-- BCS: if C == 1: pc <- e (R184, R186). -/
def opBcs (r : Ref) (s : State) : State :=
  (s.past (.ref r)).branch s.flags.C (effectiveAddress r s)

/-- BCS Relative, 0xB0 (R186, R77). -/
def execBcs (o : Byte) (s : State) : Answer :=
  .next (opBcs (.rel o) s)

/-- BEQ: if Z == 1: pc <- e (R184, R187). -/
def opBeq (r : Ref) (s : State) : State :=
  (s.past (.ref r)).branch s.flags.Z (effectiveAddress r s)

/-- BEQ Relative, 0xF0 (R187, R77). -/
def execBeq (o : Byte) (s : State) : Answer :=
  .next (opBeq (.rel o) s)

/-- BNE: if Z == 0: pc <- e (R184, R188). -/
def opBne (r : Ref) (s : State) : State :=
  (s.past (.ref r)).branch (!s.flags.Z) (effectiveAddress r s)

/-- BNE Relative, 0xD0 (R188, R77). -/
def execBne (o : Byte) (s : State) : Answer :=
  .next (opBne (.rel o) s)

/-- BMI: if N == 1: pc <- e (R184, R189). -/
def opBmi (r : Ref) (s : State) : State :=
  (s.past (.ref r)).branch s.flags.N (effectiveAddress r s)

/-- BMI Relative, 0x30 (R189, R77). -/
def execBmi (o : Byte) (s : State) : Answer :=
  .next (opBmi (.rel o) s)

/-- BPL: if N == 0: pc <- e (R184, R190). -/
def opBpl (r : Ref) (s : State) : State :=
  (s.past (.ref r)).branch (!s.flags.N) (effectiveAddress r s)

/-- BPL Relative, 0x10 (R190, R77). -/
def execBpl (o : Byte) (s : State) : Answer :=
  .next (opBpl (.rel o) s)

/-- BVC: if V == 0: pc <- e (R184, R191). -/
def opBvc (r : Ref) (s : State) : State :=
  (s.past (.ref r)).branch (!s.flags.V) (effectiveAddress r s)

/-- BVC Relative, 0x50 (R191, R77). -/
def execBvc (o : Byte) (s : State) : Answer :=
  .next (opBvc (.rel o) s)

/-- BVS: if V == 1: pc <- e (R184, R192). -/
def opBvs (r : Ref) (s : State) : State :=
  (s.past (.ref r)).branch s.flags.V (effectiveAddress r s)

/-- BVS Relative, 0x70 (R192, R77). -/
def execBvs (o : Byte) (s : State) : Answer :=
  .next (opBvs (.rel o) s)

end Sys2Proof.Machine
end

