-- ==== Sys2Proof/Machine/FlagOps.lean ====
section
/-!
DEFINITION. The flag instructions (46_flags.md): each writes exactly one flag (R170).
Of each mnemonic: what it does to the state (`op…`), and below it the meaning of each of its rows (`exec…`).
-/

namespace Sys2Proof.Machine

/-- CLC: C <- 0 (R171). -/
def opClc (o : Operand) (s : State) : State :=
  (s.past o).setC false

/-- CLC Implicit, 0x18 (R171, R76). -/
def execClc (s : State) : Answer :=
  .next (opClc .imp s)

/-- SEC: C <- 1 (R172). -/
def opSec (o : Operand) (s : State) : State :=
  (s.past o).setC true

/-- SEC Implicit, 0x38 (R172, R76). -/
def execSec (s : State) : Answer :=
  .next (opSec .imp s)

/-- CLI: I <- 0 (R173). -/
def opCli (o : Operand) (s : State) : State :=
  (s.past o).setI false

/-- CLI Implicit, 0x58 (R173, R76). -/
def execCli (s : State) : Answer :=
  .next (opCli .imp s)

/-- SEI: I <- 1 (R174). -/
def opSei (o : Operand) (s : State) : State :=
  (s.past o).setI true

/-- SEI Implicit, 0x78 (R174, R76). -/
def execSei (s : State) : Answer :=
  .next (opSei .imp s)

/-- CLD: D <- 0 (R175). -/
def opCld (o : Operand) (s : State) : State :=
  (s.past o).setD false

/-- CLD Implicit, 0xD8 (R175, R76). -/
def execCld (s : State) : Answer :=
  .next (opCld .imp s)

/-- SED: D <- 1 (R176). -/
def opSed (o : Operand) (s : State) : State :=
  (s.past o).setD true

/-- SED Implicit, 0xF8 (R176, R76). -/
def execSed (s : State) : Answer :=
  .next (opSed .imp s)

/-- CLV: V <- 0 (R177). -/
def opClv (o : Operand) (s : State) : State :=
  (s.past o).setV false

/-- CLV Implicit, 0xB8 (R177, R76). -/
def execClv (s : State) : Answer :=
  .next (opClv .imp s)

end Sys2Proof.Machine
end

