-- ==== Sys2Proof/Machine/IncDec.lean ====
section
/-!
DEFINITION. Increments and decrements (44_incdec.md); C and V are never written (R150).
Of each mnemonic: what it does to the state (`op…`), and below it the meaning of each of its rows (`exec…`).
-/

namespace Sys2Proof.Machine

/-- INC: MemWrite(e, 1, result(M + 1)) (R151). -/
def opInc (r : Ref) (s : State) : State :=
  (s.past (.ref r)).storeResult (effectiveAddress r s) (narrow (int (operandByte r s) + 1))

/-- INC Zero Page, 0xE6 (R151, R79). -/
def execIncZp (b : Byte) (s : State) : Answer :=
  .next (opInc (.zp b) s)

/-- INC Absolute, 0xEE (R151, R82). -/
def execIncAbs (lo hi : Byte) (s : State) : Answer :=
  .next (opInc (.abs lo hi) s)

/-- INC Zero Page,X, 0xF6 (R151, R80). -/
def execIncZpx (b : Byte) (s : State) : Answer :=
  .next (opInc (.zpx b) s)

/-- INC Absolute,X, 0xFE (R151, R83). -/
def execIncAbx (lo hi : Byte) (s : State) : Answer :=
  .next (opInc (.abx lo hi) s)

/-- DEC: MemWrite(e, 1, result(M - 1)) (R152). -/
def opDec (r : Ref) (s : State) : State :=
  (s.past (.ref r)).storeResult (effectiveAddress r s) (narrow (int (operandByte r s) - 1))

/-- DEC Zero Page, 0xC6 (R152, R79). -/
def execDecZp (b : Byte) (s : State) : Answer :=
  .next (opDec (.zp b) s)

/-- DEC Absolute, 0xCE (R152, R82). -/
def execDecAbs (lo hi : Byte) (s : State) : Answer :=
  .next (opDec (.abs lo hi) s)

/-- DEC Zero Page,X, 0xD6 (R152, R80). -/
def execDecZpx (b : Byte) (s : State) : Answer :=
  .next (opDec (.zpx b) s)

/-- DEC Absolute,X, 0xDE (R152, R83). -/
def execDecAbx (lo hi : Byte) (s : State) : Answer :=
  .next (opDec (.abx lo hi) s)

/-- INX: X <- result(X + 1) (R153). -/
def opInx (o : Operand) (s : State) : State :=
  (s.past o).writeX (narrow (int s.X + 1))

/-- INX Implicit, 0xE8 (R153, R76). -/
def execInx (s : State) : Answer :=
  .next (opInx .imp s)

/-- INY: Y <- result(Y + 1) (R154). -/
def opIny (o : Operand) (s : State) : State :=
  (s.past o).writeY (narrow (int s.Y + 1))

/-- INY Implicit, 0xC8 (R154, R76). -/
def execIny (s : State) : Answer :=
  .next (opIny .imp s)

/-- DEX: X <- result(X - 1) (R155). -/
def opDex (o : Operand) (s : State) : State :=
  (s.past o).writeX (narrow (int s.X - 1))

/-- DEX Implicit, 0xCA (R155, R76). -/
def execDex (s : State) : Answer :=
  .next (opDex .imp s)

/-- DEY: Y <- result(Y - 1) (R156). -/
def opDey (o : Operand) (s : State) : State :=
  (s.past o).writeY (narrow (int s.Y - 1))

/-- DEY Implicit, 0x88 (R156, R76). -/
def execDey (s : State) : Answer :=
  .next (opDey .imp s)

end Sys2Proof.Machine
end

