-- ==== Sys2Proof/Machine/LoadStore.lean ====
section
/-!
DEFINITION. LDA LDX LDY STA STX STY (41_load_store.md).
Of each mnemonic: what it does to the state (`op…`), and below it the meaning of each of its rows (`exec…`).
-/

namespace Sys2Proof.Machine

/-- LDA: A <- result(M) (R111). -/
def opLda (r : Ref) (s : State) : State :=
  (s.past (.ref r)).writeA (operandByte r s)

/-- LDA Indexed Indirect (X), 0xA1 (R111, R85). -/
def execLdaIzx (b : Byte) (s : State) : Answer :=
  .next (opLda (.izx b) s)

/-- LDA Zero Page, 0xA5 (R111, R79). -/
def execLdaZp (b : Byte) (s : State) : Answer :=
  .next (opLda (.zp b) s)

/-- LDA Immediate, 0xA9 (R111, R78). -/
def execLdaImm (b : Byte) (s : State) : Answer :=
  .next (opLda (.imm b) s)

/-- LDA Absolute, 0xAD (R111, R82). -/
def execLdaAbs (lo hi : Byte) (s : State) : Answer :=
  .next (opLda (.abs lo hi) s)

/-- LDA Indirect Indexed (Y), 0xB1 (R111, R86). -/
def execLdaIzy (b : Byte) (s : State) : Answer :=
  .next (opLda (.izy b) s)

/-- LDA Zero Page,X, 0xB5 (R111, R80). -/
def execLdaZpx (b : Byte) (s : State) : Answer :=
  .next (opLda (.zpx b) s)

/-- LDA Absolute,Y, 0xB9 (R111, R84). -/
def execLdaAby (lo hi : Byte) (s : State) : Answer :=
  .next (opLda (.aby lo hi) s)

/-- LDA Absolute,X, 0xBD (R111, R83). -/
def execLdaAbx (lo hi : Byte) (s : State) : Answer :=
  .next (opLda (.abx lo hi) s)

/-- LDX: X <- result(M) (R112). -/
def opLdx (r : Ref) (s : State) : State :=
  (s.past (.ref r)).writeX (operandByte r s)

/-- LDX Immediate, 0xA2 (R112, R78). -/
def execLdxImm (b : Byte) (s : State) : Answer :=
  .next (opLdx (.imm b) s)

/-- LDX Zero Page, 0xA6 (R112, R79). -/
def execLdxZp (b : Byte) (s : State) : Answer :=
  .next (opLdx (.zp b) s)

/-- LDX Absolute, 0xAE (R112, R82). -/
def execLdxAbs (lo hi : Byte) (s : State) : Answer :=
  .next (opLdx (.abs lo hi) s)

/-- LDX Zero Page,Y, 0xB6 (R112, R81). -/
def execLdxZpy (b : Byte) (s : State) : Answer :=
  .next (opLdx (.zpy b) s)

/-- LDX Absolute,Y, 0xBE (R112, R84). -/
def execLdxAby (lo hi : Byte) (s : State) : Answer :=
  .next (opLdx (.aby lo hi) s)

/-- LDY: Y <- result(M) (R113). -/
def opLdy (r : Ref) (s : State) : State :=
  (s.past (.ref r)).writeY (operandByte r s)

/-- LDY Immediate, 0xA0 (R113, R78). -/
def execLdyImm (b : Byte) (s : State) : Answer :=
  .next (opLdy (.imm b) s)

/-- LDY Zero Page, 0xA4 (R113, R79). -/
def execLdyZp (b : Byte) (s : State) : Answer :=
  .next (opLdy (.zp b) s)

/-- LDY Absolute, 0xAC (R113, R82). -/
def execLdyAbs (lo hi : Byte) (s : State) : Answer :=
  .next (opLdy (.abs lo hi) s)

/-- LDY Zero Page,X, 0xB4 (R113, R80). -/
def execLdyZpx (b : Byte) (s : State) : Answer :=
  .next (opLdy (.zpx b) s)

/-- LDY Absolute,X, 0xBC (R113, R83). -/
def execLdyAbx (lo hi : Byte) (s : State) : Answer :=
  .next (opLdy (.abx lo hi) s)

/-- STA: MemWrite(e, 1, A) (R114). No flag. -/
def opSta (r : Ref) (s : State) : State :=
  (s.past (.ref r)).store (effectiveAddress r s) s.A

/-- STA Indexed Indirect (X), 0x81 (R114, R85). -/
def execStaIzx (b : Byte) (s : State) : Answer :=
  .next (opSta (.izx b) s)

/-- STA Zero Page, 0x85 (R114, R79). -/
def execStaZp (b : Byte) (s : State) : Answer :=
  .next (opSta (.zp b) s)

/-- STA Absolute, 0x8D (R114, R82). -/
def execStaAbs (lo hi : Byte) (s : State) : Answer :=
  .next (opSta (.abs lo hi) s)

/-- STA Indirect Indexed (Y), 0x91 (R114, R86). -/
def execStaIzy (b : Byte) (s : State) : Answer :=
  .next (opSta (.izy b) s)

/-- STA Zero Page,X, 0x95 (R114, R80). -/
def execStaZpx (b : Byte) (s : State) : Answer :=
  .next (opSta (.zpx b) s)

/-- STA Absolute,Y, 0x99 (R114, R84). -/
def execStaAby (lo hi : Byte) (s : State) : Answer :=
  .next (opSta (.aby lo hi) s)

/-- STA Absolute,X, 0x9D (R114, R83). -/
def execStaAbx (lo hi : Byte) (s : State) : Answer :=
  .next (opSta (.abx lo hi) s)

/-- STX: MemWrite(e, 1, X) (R115). No flag. -/
def opStx (r : Ref) (s : State) : State :=
  (s.past (.ref r)).store (effectiveAddress r s) s.X

/-- STX Zero Page, 0x86 (R115, R79). -/
def execStxZp (b : Byte) (s : State) : Answer :=
  .next (opStx (.zp b) s)

/-- STX Absolute, 0x8E (R115, R82). -/
def execStxAbs (lo hi : Byte) (s : State) : Answer :=
  .next (opStx (.abs lo hi) s)

/-- STX Zero Page,Y, 0x96 (R115, R81). -/
def execStxZpy (b : Byte) (s : State) : Answer :=
  .next (opStx (.zpy b) s)

/-- STY: MemWrite(e, 1, Y) (R116). No flag. -/
def opSty (r : Ref) (s : State) : State :=
  (s.past (.ref r)).store (effectiveAddress r s) s.Y

/-- STY Zero Page, 0x84 (R116, R79). -/
def execStyZp (b : Byte) (s : State) : Answer :=
  .next (opSty (.zp b) s)

/-- STY Absolute, 0x8C (R116, R82). -/
def execStyAbs (lo hi : Byte) (s : State) : Answer :=
  .next (opSty (.abs lo hi) s)

/-- STY Zero Page,X, 0x94 (R116, R80). -/
def execStyZpx (b : Byte) (s : State) : Answer :=
  .next (opSty (.zpx b) s)

end Sys2Proof.Machine
end

