-- ==== Sys2Proof/Machine/Shift.lean ====
section
/-!
DEFINITION. Shifts and rotates (45_shift.md), of A or of the byte at e (R160); they write C, Z and N.
Of each mnemonic: what it does to the state (`op…`), and below it the meaning of each of its rows (`exec…`).
-/

namespace Sys2Proof.Machine

/-- ASL: C <- (old > 0x7F); put(e, old << 1) (R161). -/
def opAsl (o : Operand) (s : State) : State :=
  let old := getOperand o s
  (putOperand o (old <<< 1) s).setC (decide (old > 0x7F))

/-- ASL Zero Page, 0x06 (R161, R79). -/
def execAslZp (b : Byte) (s : State) : Answer :=
  .next (opAsl (.ref (.zp b)) s)

/-- ASL Implicit, 0x0A (R161, R76). -/
def execAslImp (s : State) : Answer :=
  .next (opAsl .imp s)

/-- ASL Absolute, 0x0E (R161, R82). -/
def execAslAbs (lo hi : Byte) (s : State) : Answer :=
  .next (opAsl (.ref (.abs lo hi)) s)

/-- ASL Zero Page,X, 0x16 (R161, R80). -/
def execAslZpx (b : Byte) (s : State) : Answer :=
  .next (opAsl (.ref (.zpx b)) s)

/-- ASL Absolute,X, 0x1E (R161, R83). -/
def execAslAbx (lo hi : Byte) (s : State) : Answer :=
  .next (opAsl (.ref (.abx lo hi)) s)

/-- LSR: C <- old[0]; put(e, (old >> 1) & 0x7F) (R162). -/
def opLsr (o : Operand) (s : State) : State :=
  let old := getOperand o s
  (putOperand o (old >>> 1 &&& 0x7F) s).setC (old.getLsbD 0)

/-- LSR Zero Page, 0x46 (R162, R79). -/
def execLsrZp (b : Byte) (s : State) : Answer :=
  .next (opLsr (.ref (.zp b)) s)

/-- LSR Implicit, 0x4A (R162, R76). -/
def execLsrImp (s : State) : Answer :=
  .next (opLsr .imp s)

/-- LSR Absolute, 0x4E (R162, R82). -/
def execLsrAbs (lo hi : Byte) (s : State) : Answer :=
  .next (opLsr (.ref (.abs lo hi)) s)

/-- LSR Zero Page,X, 0x56 (R162, R80). -/
def execLsrZpx (b : Byte) (s : State) : Answer :=
  .next (opLsr (.ref (.zpx b)) s)

/-- LSR Absolute,X, 0x5E (R162, R83). -/
def execLsrAbx (lo hi : Byte) (s : State) : Answer :=
  .next (opLsr (.ref (.abx lo hi)) s)

/-- ROL: C <- old[7]; put(e, (old << 1) | cin), the carry-in into bit 0 (R163). -/
def opRol (o : Operand) (s : State) : State :=
  let old := getOperand o s
  (putOperand o (old <<< 1 ||| bitByte s.flags.C) s).setC (old.getLsbD 7)

/-- ROL Zero Page, 0x26 (R163, R79). -/
def execRolZp (b : Byte) (s : State) : Answer :=
  .next (opRol (.ref (.zp b)) s)

/-- ROL Implicit, 0x2A (R163, R76). -/
def execRolImp (s : State) : Answer :=
  .next (opRol .imp s)

/-- ROL Absolute, 0x2E (R163, R82). -/
def execRolAbs (lo hi : Byte) (s : State) : Answer :=
  .next (opRol (.ref (.abs lo hi)) s)

/-- ROL Zero Page,X, 0x36 (R163, R80). -/
def execRolZpx (b : Byte) (s : State) : Answer :=
  .next (opRol (.ref (.zpx b)) s)

/-- ROL Absolute,X, 0x3E (R163, R83). -/
def execRolAbx (lo hi : Byte) (s : State) : Answer :=
  .next (opRol (.ref (.abx lo hi)) s)

/-- ROR: C <- old[0]; put(e, (old >> 1) | (cin << 7)), the carry-in into bit 7 (R164). -/
def opRor (o : Operand) (s : State) : State :=
  let old := getOperand o s
  (putOperand o (old >>> 1 ||| bitByte s.flags.C <<< 7) s).setC (old.getLsbD 0)

/-- ROR Zero Page, 0x66 (R164, R79). -/
def execRorZp (b : Byte) (s : State) : Answer :=
  .next (opRor (.ref (.zp b)) s)

/-- ROR Implicit, 0x6A (R164, R76). -/
def execRorImp (s : State) : Answer :=
  .next (opRor .imp s)

/-- ROR Absolute, 0x6E (R164, R82). -/
def execRorAbs (lo hi : Byte) (s : State) : Answer :=
  .next (opRor (.ref (.abs lo hi)) s)

/-- ROR Zero Page,X, 0x76 (R164, R80). -/
def execRorZpx (b : Byte) (s : State) : Answer :=
  .next (opRor (.ref (.zpx b)) s)

/-- ROR Absolute,X, 0x7E (R164, R83). -/
def execRorAbx (lo hi : Byte) (s : State) : Answer :=
  .next (opRor (.ref (.abx lo hi)) s)

end Sys2Proof.Machine
end

