-- ==== Sys2Proof/Machine/System.lean ====
section
/-!
DEFINITION. BRK, RTI and NOP (48_system.md).
Of each mnemonic: what it does to the state (`op…`), and below it the meaning of each of its rows (`exec…`).
-/

namespace Sys2Proof.Machine

/-- BRK: raise Halt(Break{pc0}) after the opcode fetch: pc is pc0 + 1, nothing else is written (R200). -/
def opBrk (o : Operand) (s : State) : State :=
  (s.past o).raise (.brk s.pc)

/-- BRK Implicit, 0x00 (R200, R76). -/
def execBrk (s : State) : Answer :=
  .next (opBrk .imp s)

/-- RTI, 0x40 (R201): in the default `UNIMPLEMENTED_SET`, so the step halts with `UnimplementedMnemonic{RTI, pc0}`, pc stays
pc0 and nothing else changes (R212). -/
def execRti (s : State) : Answer :=
  .next (s.raise (.unimplementedMnemonic .RTI s.pc))

/-- NOP: Nothing but the pc advance (R202). -/
def opNop (o : Operand) (s : State) : State :=
  s.past o

/-- NOP Implicit, 0xEA (R202, R76). -/
def execNop (s : State) : Answer :=
  .next (opNop .imp s)

end Sys2Proof.Machine
end

