-- ==== Sys2Proof/Machine/Transfer.lean ====
section
/-!
DEFINITION. Register transfers and the stack instructions (42_transfer_stack.md).
Of each mnemonic: what it does to the state (`op…`), and below it the meaning of each of its rows (`exec…`).
-/

namespace Sys2Proof.Machine

/-- TAX: X <- result(A) (R121). -/
def opTax (o : Operand) (s : State) : State :=
  (s.past o).writeX s.A

/-- TAX Implicit, 0xAA (R121, R76). -/
def execTax (s : State) : Answer :=
  .next (opTax .imp s)

/-- TAY: Y <- result(A) (R122). -/
def opTay (o : Operand) (s : State) : State :=
  (s.past o).writeY s.A

/-- TAY Implicit, 0xA8 (R122, R76). -/
def execTay (s : State) : Answer :=
  .next (opTay .imp s)

/-- TXA: A <- result(X) (R123). -/
def opTxa (o : Operand) (s : State) : State :=
  (s.past o).writeA s.X

/-- TXA Implicit, 0x8A (R123, R76). -/
def execTxa (s : State) : Answer :=
  .next (opTxa .imp s)

/-- TYA: A <- result(Y) (R124). -/
def opTya (o : Operand) (s : State) : State :=
  (s.past o).writeA s.Y

/-- TYA Implicit, 0x98 (R124, R76). -/
def execTya (s : State) : Answer :=
  .next (opTya .imp s)

/-- TSX: X <- result(sp) (R125). -/
def opTsx (o : Operand) (s : State) : State :=
  (s.past o).writeX s.sp

/-- TSX Implicit, 0xBA (R125, R76). -/
def execTsx (s : State) : Answer :=
  .next (opTsx .imp s)

/-- TXS: sp <- X (R126). No flag, since sp is not a register of `result` (R31). -/
def opTxs (o : Operand) (s : State) : State :=
  { s.past o with sp := s.X }

/-- TXS Implicit, 0x9A (R126, R76). -/
def execTxs (s : State) : Answer :=
  .next (opTxs .imp s)

/-- PHA: Push(A) (R127). -/
def opPha (o : Operand) (s : State) : State :=
  (s.past o).push s.A

/-- PHA Implicit, 0x48 (R127, R76). -/
def execPha (s : State) : Answer :=
  .next (opPha .imp s)

/-- PHP: Push(pack_flags()) (R128). -/
def opPhp (o : Operand) (s : State) : State :=
  (s.past o).push (packFlags s.flags)

/-- PHP Implicit, 0x08 (R128, R76). -/
def execPhp (s : State) : Answer :=
  .next (opPhp .imp s)

/-- PLA: A <- result(Pull()) (R129). -/
def opPla (o : Operand) (s : State) : State :=
  let (v, t) := (s.past o).pull
  t.writeA v

/-- PLA Implicit, 0x68 (R129, R76). -/
def execPla (s : State) : Answer :=
  .next (opPla .imp s)

/-- PLP: unpack_flags(Pull()) (R130). -/
def opPlp (o : Operand) (s : State) : State :=
  let (v, t) := (s.past o).pull
  { t with flags := unpackFlags v }

/-- PLP Implicit, 0x28 (R130, R76). -/
def execPlp (s : State) : Answer :=
  .next (opPlp .imp s)

end Sys2Proof.Machine
end

