-- ==== Sys2Proof/Machine/Dispatch.lean ====
section
/-!
DEFINITION. The dispatch: one arm per constructor of `Instr`, each one direct call of its meaning. `exec i s` is what is left
of a step of a RUNNING engine once the bytes at pc are decoded to `i`, under the default configuration (R100, R103);
the pc of `s` is pc0 (log 4).
-/

namespace Sys2Proof.Machine

def exec (i : Instr) (s : State) : Host.Outcome State Fault Refusal :=
  match i with
  -- 41_load_store.md
  | .ldaIzx b => Sys2Proof.Machine.execLdaIzx b s
  | .ldaZp b => Sys2Proof.Machine.execLdaZp b s
  | .ldaImm b => Sys2Proof.Machine.execLdaImm b s
  | .ldaAbs lo hi => Sys2Proof.Machine.execLdaAbs lo hi s
  | .ldaIzy b => Sys2Proof.Machine.execLdaIzy b s
  | .ldaZpx b => Sys2Proof.Machine.execLdaZpx b s
  | .ldaAby lo hi => Sys2Proof.Machine.execLdaAby lo hi s
  | .ldaAbx lo hi => Sys2Proof.Machine.execLdaAbx lo hi s
  | .ldxImm b => Sys2Proof.Machine.execLdxImm b s
  | .ldxZp b => Sys2Proof.Machine.execLdxZp b s
  | .ldxAbs lo hi => Sys2Proof.Machine.execLdxAbs lo hi s
  | .ldxZpy b => Sys2Proof.Machine.execLdxZpy b s
  | .ldxAby lo hi => Sys2Proof.Machine.execLdxAby lo hi s
  | .ldyImm b => Sys2Proof.Machine.execLdyImm b s
  | .ldyZp b => Sys2Proof.Machine.execLdyZp b s
  | .ldyAbs lo hi => Sys2Proof.Machine.execLdyAbs lo hi s
  | .ldyZpx b => Sys2Proof.Machine.execLdyZpx b s
  | .ldyAbx lo hi => Sys2Proof.Machine.execLdyAbx lo hi s
  | .staIzx b => Sys2Proof.Machine.execStaIzx b s
  | .staZp b => Sys2Proof.Machine.execStaZp b s
  | .staAbs lo hi => Sys2Proof.Machine.execStaAbs lo hi s
  | .staIzy b => Sys2Proof.Machine.execStaIzy b s
  | .staZpx b => Sys2Proof.Machine.execStaZpx b s
  | .staAby lo hi => Sys2Proof.Machine.execStaAby lo hi s
  | .staAbx lo hi => Sys2Proof.Machine.execStaAbx lo hi s
  | .stxZp b => Sys2Proof.Machine.execStxZp b s
  | .stxAbs lo hi => Sys2Proof.Machine.execStxAbs lo hi s
  | .stxZpy b => Sys2Proof.Machine.execStxZpy b s
  | .styZp b => Sys2Proof.Machine.execStyZp b s
  | .styAbs lo hi => Sys2Proof.Machine.execStyAbs lo hi s
  | .styZpx b => Sys2Proof.Machine.execStyZpx b s
  -- 42_transfer_stack.md
  | .tax => Sys2Proof.Machine.execTax s
  | .tay => Sys2Proof.Machine.execTay s
  | .txa => Sys2Proof.Machine.execTxa s
  | .tya => Sys2Proof.Machine.execTya s
  | .tsx => Sys2Proof.Machine.execTsx s
  | .txs => Sys2Proof.Machine.execTxs s
  | .pha => Sys2Proof.Machine.execPha s
  | .php => Sys2Proof.Machine.execPhp s
  | .pla => Sys2Proof.Machine.execPla s
  | .plp => Sys2Proof.Machine.execPlp s
  -- 43_alu.md
  | .adcIzx b => Sys2Proof.Machine.execAdcIzx b s
  | .adcZp b => Sys2Proof.Machine.execAdcZp b s
  | .adcImm b => Sys2Proof.Machine.execAdcImm b s
  | .adcAbs lo hi => Sys2Proof.Machine.execAdcAbs lo hi s
  | .adcIzy b => Sys2Proof.Machine.execAdcIzy b s
  | .adcZpx b => Sys2Proof.Machine.execAdcZpx b s
  | .adcAby lo hi => Sys2Proof.Machine.execAdcAby lo hi s
  | .adcAbx lo hi => Sys2Proof.Machine.execAdcAbx lo hi s
  | .sbcIzx b => Sys2Proof.Machine.execSbcIzx b s
  | .sbcZp b => Sys2Proof.Machine.execSbcZp b s
  | .sbcImm b => Sys2Proof.Machine.execSbcImm b s
  | .sbcAbs lo hi => Sys2Proof.Machine.execSbcAbs lo hi s
  | .sbcIzy b => Sys2Proof.Machine.execSbcIzy b s
  | .sbcZpx b => Sys2Proof.Machine.execSbcZpx b s
  | .sbcAby lo hi => Sys2Proof.Machine.execSbcAby lo hi s
  | .sbcAbx lo hi => Sys2Proof.Machine.execSbcAbx lo hi s
  | .andIzx b => Sys2Proof.Machine.execAndIzx b s
  | .andZp b => Sys2Proof.Machine.execAndZp b s
  | .andImm b => Sys2Proof.Machine.execAndImm b s
  | .andAbs lo hi => Sys2Proof.Machine.execAndAbs lo hi s
  | .andIzy b => Sys2Proof.Machine.execAndIzy b s
  | .andZpx b => Sys2Proof.Machine.execAndZpx b s
  | .andAby lo hi => Sys2Proof.Machine.execAndAby lo hi s
  | .andAbx lo hi => Sys2Proof.Machine.execAndAbx lo hi s
  | .oraIzx b => Sys2Proof.Machine.execOraIzx b s
  | .oraZp b => Sys2Proof.Machine.execOraZp b s
  | .oraImm b => Sys2Proof.Machine.execOraImm b s
  | .oraAbs lo hi => Sys2Proof.Machine.execOraAbs lo hi s
  | .oraIzy b => Sys2Proof.Machine.execOraIzy b s
  | .oraZpx b => Sys2Proof.Machine.execOraZpx b s
  | .oraAby lo hi => Sys2Proof.Machine.execOraAby lo hi s
  | .oraAbx lo hi => Sys2Proof.Machine.execOraAbx lo hi s
  | .eorIzx b => Sys2Proof.Machine.execEorIzx b s
  | .eorZp b => Sys2Proof.Machine.execEorZp b s
  | .eorImm b => Sys2Proof.Machine.execEorImm b s
  | .eorAbs lo hi => Sys2Proof.Machine.execEorAbs lo hi s
  | .eorIzy b => Sys2Proof.Machine.execEorIzy b s
  | .eorZpx b => Sys2Proof.Machine.execEorZpx b s
  | .eorAby lo hi => Sys2Proof.Machine.execEorAby lo hi s
  | .eorAbx lo hi => Sys2Proof.Machine.execEorAbx lo hi s
  | .bitZp b => Sys2Proof.Machine.execBitZp b s
  | .bitAbs lo hi => Sys2Proof.Machine.execBitAbs lo hi s
  | .cmpIzx b => Sys2Proof.Machine.execCmpIzx b s
  | .cmpZp b => Sys2Proof.Machine.execCmpZp b s
  | .cmpImm b => Sys2Proof.Machine.execCmpImm b s
  | .cmpAbs lo hi => Sys2Proof.Machine.execCmpAbs lo hi s
  | .cmpIzy b => Sys2Proof.Machine.execCmpIzy b s
  | .cmpZpx b => Sys2Proof.Machine.execCmpZpx b s
  | .cmpAby lo hi => Sys2Proof.Machine.execCmpAby lo hi s
  | .cmpAbx lo hi => Sys2Proof.Machine.execCmpAbx lo hi s
  | .cpxImm b => Sys2Proof.Machine.execCpxImm b s
  | .cpxZp b => Sys2Proof.Machine.execCpxZp b s
  | .cpxAbs lo hi => Sys2Proof.Machine.execCpxAbs lo hi s
  | .cpyImm b => Sys2Proof.Machine.execCpyImm b s
  | .cpyZp b => Sys2Proof.Machine.execCpyZp b s
  | .cpyAbs lo hi => Sys2Proof.Machine.execCpyAbs lo hi s
  -- 44_incdec.md
  | .incZp b => Sys2Proof.Machine.execIncZp b s
  | .incAbs lo hi => Sys2Proof.Machine.execIncAbs lo hi s
  | .incZpx b => Sys2Proof.Machine.execIncZpx b s
  | .incAbx lo hi => Sys2Proof.Machine.execIncAbx lo hi s
  | .decZp b => Sys2Proof.Machine.execDecZp b s
  | .decAbs lo hi => Sys2Proof.Machine.execDecAbs lo hi s
  | .decZpx b => Sys2Proof.Machine.execDecZpx b s
  | .decAbx lo hi => Sys2Proof.Machine.execDecAbx lo hi s
  | .inx => Sys2Proof.Machine.execInx s
  | .iny => Sys2Proof.Machine.execIny s
  | .dex => Sys2Proof.Machine.execDex s
  | .dey => Sys2Proof.Machine.execDey s
  -- 45_shift.md
  | .aslZp b => Sys2Proof.Machine.execAslZp b s
  | .aslImp => Sys2Proof.Machine.execAslImp s
  | .aslAbs lo hi => Sys2Proof.Machine.execAslAbs lo hi s
  | .aslZpx b => Sys2Proof.Machine.execAslZpx b s
  | .aslAbx lo hi => Sys2Proof.Machine.execAslAbx lo hi s
  | .lsrZp b => Sys2Proof.Machine.execLsrZp b s
  | .lsrImp => Sys2Proof.Machine.execLsrImp s
  | .lsrAbs lo hi => Sys2Proof.Machine.execLsrAbs lo hi s
  | .lsrZpx b => Sys2Proof.Machine.execLsrZpx b s
  | .lsrAbx lo hi => Sys2Proof.Machine.execLsrAbx lo hi s
  | .rolZp b => Sys2Proof.Machine.execRolZp b s
  | .rolImp => Sys2Proof.Machine.execRolImp s
  | .rolAbs lo hi => Sys2Proof.Machine.execRolAbs lo hi s
  | .rolZpx b => Sys2Proof.Machine.execRolZpx b s
  | .rolAbx lo hi => Sys2Proof.Machine.execRolAbx lo hi s
  | .rorZp b => Sys2Proof.Machine.execRorZp b s
  | .rorImp => Sys2Proof.Machine.execRorImp s
  | .rorAbs lo hi => Sys2Proof.Machine.execRorAbs lo hi s
  | .rorZpx b => Sys2Proof.Machine.execRorZpx b s
  | .rorAbx lo hi => Sys2Proof.Machine.execRorAbx lo hi s
  -- 46_flags.md
  | .clc => Sys2Proof.Machine.execClc s
  | .sec => Sys2Proof.Machine.execSec s
  | .cli => Sys2Proof.Machine.execCli s
  | .sei => Sys2Proof.Machine.execSei s
  | .cld => Sys2Proof.Machine.execCld s
  | .sed => Sys2Proof.Machine.execSed s
  | .clv => Sys2Proof.Machine.execClv s
  -- 47_control.md
  | .jmpAbs lo hi => Sys2Proof.Machine.execJmpAbs lo hi s
  | .jmpInd lo hi => Sys2Proof.Machine.execJmpInd lo hi s
  | .jsr lo hi => Sys2Proof.Machine.execJsr lo hi s
  | .rts => Sys2Proof.Machine.execRts s
  | .bcc o => Sys2Proof.Machine.execBcc o s
  | .bcs o => Sys2Proof.Machine.execBcs o s
  | .beq o => Sys2Proof.Machine.execBeq o s
  | .bne o => Sys2Proof.Machine.execBne o s
  | .bmi o => Sys2Proof.Machine.execBmi o s
  | .bpl o => Sys2Proof.Machine.execBpl o s
  | .bvc o => Sys2Proof.Machine.execBvc o s
  | .bvs o => Sys2Proof.Machine.execBvs o s
  -- 48_system.md
  | .brk => Sys2Proof.Machine.execBrk s
  | .rti => Sys2Proof.Machine.execRti s
  | .nop => Sys2Proof.Machine.execNop s

end Sys2Proof.Machine
end

