-- ==== Sys2Proof/Machine/Step.lean ====
section
/-!
DEFINITION. One step of the hardware (40_dispatch.md R100) under the default configuration (R6), and the placing of one
instruction where the step fetches.
-/

namespace Sys2Proof.Machine

/-- `step()` (R100): enabled only when RUNNING (R215). Fetch and decode at pc; a byte with no entry halts the engine
(R211), a decoded instruction runs. -/
def step (s : State) : Host.Outcome State Fault Refusal :=
  match s.run with
  | .halted reason => .fault (.engineHalted reason)
  | .running =>
    match s.fetch with
    | none => .next s.rejectOpcode
    | some i => exec i s

/-- The state with the instruction of a table word at pc, and RUNNING, so that the next step fetches and runs it. It
stands for the load of a program from outside (R44, R231; log 11). -/
def State.withFetchWord (s : State) (nbits w : Nat) : State :=
  { s.placeWord nbits w with run := .running }

end Sys2Proof.Machine
end

