-- ==== Sys2Proof/Machine/Engine.lean ====
section
/-!
DEFINITION. The engine with its configuration as an argument (40_dispatch.md R100, R103, R105; log 1): the same
operations as the meanings of the dispatch, for any `OPCODE_TABLE`, `UNIMPLEMENTED_SET` and `ARITH_V`. `step` of
Sys2Proof/Machine/Step.lean is this engine at the default configuration.
-/

namespace Sys2Proof.Machine

/-- A handler with its address class (R103, R105). `absent`: the spec gives the mnemonic no handler (RTI, R201). -/
inductive Handler where
  | needsAddress (op : Ref → State → State)
  | either (op : Operand → State → State)
  | ignoresAddress (op : Operand → State → State)
  | absent

/-- The handler catalogue (R103), each mnemonic under its class of R105. -/
def catalogue (c : Config) : Mnemonic → Handler
  | .LDA => .needsAddress opLda
  | .LDX => .needsAddress opLdx
  | .LDY => .needsAddress opLdy
  | .STA => .needsAddress opSta
  | .STX => .needsAddress opStx
  | .STY => .needsAddress opSty
  | .ADC => .needsAddress (opAdc c.arithV)
  | .SBC => .needsAddress (opSbc c.arithV)
  | .AND => .needsAddress opAnd
  | .ORA => .needsAddress opOra
  | .EOR => .needsAddress opEor
  | .BIT => .needsAddress opBit
  | .CMP => .needsAddress opCmp
  | .CPX => .needsAddress opCpx
  | .CPY => .needsAddress opCpy
  | .INC => .needsAddress opInc
  | .DEC => .needsAddress opDec
  | .JMP => .needsAddress opJmp
  | .JSR => .needsAddress opJsr
  | .BCC => .needsAddress opBcc
  | .BCS => .needsAddress opBcs
  | .BEQ => .needsAddress opBeq
  | .BNE => .needsAddress opBne
  | .BMI => .needsAddress opBmi
  | .BPL => .needsAddress opBpl
  | .BVC => .needsAddress opBvc
  | .BVS => .needsAddress opBvs
  | .ASL => .either opAsl
  | .LSR => .either opLsr
  | .ROL => .either opRol
  | .ROR => .either opRor
  | .BRK => .ignoresAddress opBrk
  | .CLC => .ignoresAddress opClc
  | .CLD => .ignoresAddress opCld
  | .CLI => .ignoresAddress opCli
  | .CLV => .ignoresAddress opClv
  | .DEX => .ignoresAddress opDex
  | .DEY => .ignoresAddress opDey
  | .INX => .ignoresAddress opInx
  | .INY => .ignoresAddress opIny
  | .NOP => .ignoresAddress opNop
  | .PHA => .ignoresAddress opPha
  | .PHP => .ignoresAddress opPhp
  | .PLA => .ignoresAddress opPla
  | .PLP => .ignoresAddress opPlp
  | .RTI => .absent
  | .RTS => .ignoresAddress opRts
  | .SEC => .ignoresAddress opSec
  | .SED => .ignoresAddress opSed
  | .SEI => .ignoresAddress opSei
  | .TAX => .ignoresAddress opTax
  | .TAY => .ignoresAddress opTay
  | .TSX => .ignoresAddress opTsx
  | .TXA => .ignoresAddress opTxa
  | .TXS => .ignoresAddress opTxs
  | .TYA => .ignoresAddress opTya

/-- The step from the resolver on (R100): the unimplemented check, the check for a missing address, the handler. -/
def perform (c : Config) (m : Mnemonic) (o : Operand) (s : State) : Answer :=
  if c.unimplemented.contains m then .next (s.raise (.unimplementedMnemonic m s.pc))
  else
    match catalogue c m, o with
    | .needsAddress op, .ref r => .next (op r s)
    | .needsAddress _, .imp => .next (s.raise (.invalidAddressingMode (.known .imp) s.pc))
    | .either op, o => .next (op o s)
    | .ignoresAddress op, o => .next (op o s)
    | .absent, _ => .refused .configurationWithoutRti

/-- `step()` under the configuration `c` (R100): enabled only when RUNNING (R215); the halts in the order of R217. A
configuration that is not accepted is refused (93_implementation_defined.md section 2; log 8). -/
def stepWith (c : Config) (s : State) : Answer :=
  if !c.accepted then .refused .configurationWithoutRti
  else
    match s.run with
    | .halted reason => .fault (.engineHalted reason)
    | .running =>
      match c.entry (s.read s.pc) with
      | none => .next s.rejectOpcode
      | some (m, .known mode) => perform c m (mode.operand (s.read (s.pc + 1)) (s.read (s.pc + 2))) s
      | some (_, code) => .next (s.raise (.invalidAddressingMode code s.pc))

end Sys2Proof.Machine
end

