-- ==== Sys2Proof/Machine/HostInterface.lean ====
section
/-!
DEFINITION. What the host does to the engine (00_scope.md R8): `load` (20_memory.md R44) and `run` (40_dispatch.md R106,
R226). `create` is `State.reset`, `step` is `stepWith`.
-/

namespace Sys2Proof.Machine

/-- `PROGRAM_OFFSET` (R6). -/
def programOffset : Address := 0x0600

/-- The bytes of an image from the address `a` on, written one by one (R44). -/
def State.storeImage (s : State) (a : Address) : List Byte → State
  | [] => s
  | b :: image => (s.store a b).storeImage (a + 1) image

/-- The host's load failure: the image does not fit (R44, R226). -/
inductive LoadError where
  | loadTooLarge
  deriving DecidableEq, Repr

/-- `load(image)` (R44): at most 0x10000 - 0x0600 = 64000 bytes, copied from 0x0600 on; pc becomes 0x0600. -/
def State.load (s : State) (image : List Byte) : Except LoadError State :=
  if image.length ≤ 64000 then .ok ((s.storeImage programOffset image).jump programOffset)
  else .error .loadTooLarge

/-- How a bounded run comes out. -/
inductive RunOutcome where
  /-- the engine is HALTED: the end of the run (R107) -/
  | ended (s : State)
  /-- StepLimit: the host stopped, the engine is still RUNNING (R106, R226) -/
  | stepLimit (s : State)
  /-- the configuration is refused (log 8) -/
  | refused (r : Refusal)
  deriving DecidableEq, Repr

/-- `run()` with a ceiling of `k` steps (R106). -/
def runFor (c : Config) : Nat → State → RunOutcome
  | 0, s =>
    match s.run with
    | .running => .stepLimit s
    | .halted _ => .ended s
  | k + 1, s =>
    match stepWith c s with
    | .next t => runFor c k t
    | .fault _ => .ended s
    | .refused r => .refused r

/-- `run()` under the configuration's `MAX_STEPS` comes out as `out` (R106): with a ceiling, after it; with none, when
the engine halts, however many steps that takes. A run that never halts has no outcome (log 13). -/
def RunOf (c : Config) (s : State) (out : RunOutcome) : Prop :=
  match c.maxSteps with
  | some k => runFor c k s = out
  | none => ∃ k t, runFor c k s = .ended t ∧ out = .ended t

end Sys2Proof.Machine
end

