-- ==== Sys2Proof/Safety.lean ====
section
/-!
DEFINITION. What counts as a safe run, and the vocabulary the statements are written in.
-/

namespace Sys2Proof

/-- The instruction stands for a table entry with one of these mnemonics. -/
def Instr.isOneOf (i : Instr) (ms : List Mnemonic) : Prop :=
  ∃ m ∈ ms, ∃ o, i.form = some (m, o)

namespace Machine

/-! ## Halts -/

/-- The numeric code of a halt reason (R210). -/
def HaltReason.code : HaltReason → Nat
  | .brk _ => 0
  | .unknownOpcode _ _ => 1
  | .unimplementedMnemonic _ _ => 2
  | .invalidAddressingMode _ _ => 3

/-- The payload's pc0 (R210). -/
def HaltReason.pc0 : HaltReason → Address
  | .brk a => a
  | .unknownOpcode _ a => a
  | .unimplementedMnemonic _ a => a
  | .invalidAddressingMode _ a => a

/-- Every reason but Break is fatal (R107, R210). -/
def HaltReason.fatal : HaltReason → Bool
  | .brk _ => false
  | .unknownOpcode _ _ => true
  | .unimplementedMnemonic _ _ => true
  | .invalidAddressingMode _ _ => true

/-! ## Runs -/

/-- `k` steps of the hardware lead from `s` to `t`. -/
inductive ReachesIn : Nat → State → State → Prop where
  | zero (s : State) : ReachesIn 0 s s
  | succ {k : Nat} {s t u : State} : ReachesIn k s t → step t = .next u → ReachesIn (k + 1) s u

/-- Some number of steps leads from `s` to `t`. -/
def Reaches (s t : State) : Prop :=
  ∃ k, ReachesIn k s t

/-- The run from `s` completes via Break (R107). -/
def Completes (s : State) : Prop :=
  ∃ t a, Reaches s t ∧ t.run = .halted (.brk a)

/-- A safe run: no state it reaches has halted for a fatal reason (R107). -/
def NeverAborts (s : State) : Prop :=
  ∀ t reason, Reaches s t → t.run = .halted reason → reason.fatal = false

/-! ## Bytes at pc, the next address -/

/-- The bytes `bs` lie at pc and the addresses after it, modulo 65536 (R70). -/
def State.holds (s : State) (bs : List Byte) : Prop :=
  ∀ k b, bs[k]? = some b → s.read (s.pc + BitVec.ofNat 16 k) = b

/-- The address of the instruction after one with this operand at pc (R101). -/
def nextPc (o : Operand) (s : State) : Address :=
  s.pc + BitVec.ofNat 16 (1 + o.bytes.length)

/-! ## The state with one stored-only flag replaced (R25 to R27) -/

/-- The state with D replaced. -/
def State.withD (s : State) (f : Bool) : State := { s with flags := { s.flags with D := f } }

/-- The state with I replaced. -/
def State.withI (s : State) (f : Bool) : State := { s with flags := { s.flags with I := f } }

/-- The state with B replaced. -/
def State.withB (s : State) (f : Bool) : State := { s with flags := { s.flags with B := f } }

/-! ## Several pushes and pulls (R45, R46) -/

/-- Push the bytes one after another. -/
def State.pushAll (s : State) : List Byte → State
  | [] => s
  | v :: vs => (s.push v).pushAll vs

/-- Pull `n` bytes; the first pulled is the head of the list. -/
def State.pullAll (s : State) : Nat → List Byte × State
  | 0 => ([], s)
  | n + 1 =>
    let (v, t) := s.pull
    let (vs, u) := t.pullAll n
    (v :: vs, u)

/-! ## The bytes without an entry (R89) -/

/-- R89, part 1 of 3. -/
def undocumentedBytes1 : List Byte := [
  0x02, 0x03, 0x04, 0x07, 0x0B, 0x0C, 0x0F, 0x12, 0x13, 0x14, 0x17, 0x1A,
  0x1B, 0x1C, 0x1F, 0x22, 0x23, 0x27, 0x2B, 0x2F, 0x32, 0x33, 0x34, 0x37,
  0x3A, 0x3B, 0x3C, 0x3F, 0x42, 0x43, 0x44, 0x47, 0x4B, 0x4F, 0x52 ]

/-- R89, part 2 of 3. -/
def undocumentedBytes2 : List Byte := [
  0x53, 0x54, 0x57, 0x5A, 0x5B, 0x5C, 0x5F, 0x62, 0x63, 0x64, 0x67, 0x6B,
  0x6F, 0x72, 0x73, 0x74, 0x77, 0x7A, 0x7B, 0x7C, 0x7F, 0x80, 0x82, 0x83,
  0x87, 0x89, 0x8B, 0x8F, 0x92, 0x93, 0x97, 0x9B, 0x9C, 0x9E, 0x9F ]

/-- R89, part 3 of 3. -/
def undocumentedBytes3 : List Byte := [
  0xA3, 0xA7, 0xAB, 0xAF, 0xB2, 0xB3, 0xB7, 0xBB, 0xBF, 0xC2, 0xC3, 0xC7,
  0xCB, 0xCF, 0xD2, 0xD3, 0xD4, 0xD7, 0xDA, 0xDB, 0xDC, 0xDF, 0xE2, 0xE3,
  0xE7, 0xEB, 0xEF, 0xF2, 0xF3, 0xF4, 0xF7, 0xFA, 0xFB, 0xFC, 0xFF ]

/-- The 105 bytes of R89. -/
def undocumentedBytes : List Byte :=
  undocumentedBytes1 ++ undocumentedBytes2 ++ undocumentedBytes3

end Machine

end Sys2Proof
end

