-- ==== Sys2Proof/Certificates/Slice0/Obligations.lean ====
section
/-!
DEFINITION. The statements for the provers. Each docstring says which rule of spec/ it formalises and, where a clause
rests on a decision the spec marks as its own (92_eei_decisions.md) or on a choice of the model, names it.
In every statement about `exec` the pc of `s` is pc0 (log 4); `operandByte r s` is M (R104), `effectiveAddress r s` is e (R75).
-/

open Sys2Proof Sys2Proof.Machine

/-! ## Encoding and decoding -/

/-- R70, R92: an instruction is its opcode byte and its operand bytes, with nothing before them and whatever follows left
over. No operand bit is dropped. -/
def Obligations.DecodeOfEncodeIsTheInstruction : Prop :=
  ∀ (i : Instr) (rest : List Byte), i.wellFormed = true → decode (encode i ++ rest) = .ok (i, rest)

/-- R70, R92: every byte string decodes to at most one instruction, whose encoding is the bytes consumed. -/
def Obligations.EncodeOfDecodeIsTheBytes : Prop :=
  ∀ (bs : List Byte) (i : Instr) (rest : List Byte),
    decode bs = .ok (i, rest) → i.wellFormed = true ∧ bs = encode i ++ rest

/-- Words written out from the Encoding lines of R111, R115, R137, R151, R161, R182, R188, R200: one of each format of R70
and most modes. -/
def Obligations.SpecWordsDecodeAsWritten : Prop :=
  decode [0xA9, 0xAA] = .ok (.ldaImm 0xAA, []) ∧
  decode [0x8D, 0x00, 0x02, 0x00] = .ok (.staAbs 0x00 0x02, [0x00]) ∧
  decode [0x96, 0xFF] = .ok (.stxZpy 0xFF, []) ∧
  decode [0x71, 0x40] = .ok (.adcIzy 0x40, []) ∧
  decode [0xE1, 0x20] = .ok (.sbcIzx 0x20, []) ∧
  decode [0xFE, 0x00, 0x03] = .ok (.incAbx 0x00 0x03, []) ∧
  decode [0x0A, 0x0A] = .ok (.aslImp, [0x0A]) ∧
  decode [0x20, 0x00, 0x07] = .ok (.jsr 0x00 0x07, []) ∧
  decode [0xD0, 0xFD] = .ok (.bne 0xFD, []) ∧
  decode [0x00] = .ok (.brk, []) ∧
  decode [0x40] = .ok (.rti, [])

/-- R71, R89, R90: a byte decodes as nothing exactly when it is one of the 105 bytes of R89 or 0x6C, whatever follows. -/
def Obligations.DecodeRefusesExactlyTheUnlistedBytes : Prop :=
  ∀ op b1 b2 : Byte, decodeOp op b1 b2 = none ↔ op ∈ undocumentedBytes ∨ op = 0x6C

/-- R70, R74, R92: the length of an instruction is fixed by the mode of the table entry of its first byte, and the decoder
takes exactly the operand bytes R74 counts. -/
def Obligations.LengthIsFixedByTheOpcodeByte : Prop :=
  ∀ (op b1 b2 : Byte) (i : Instr), decodeOp op b1 b2 = some i →
    ∃ m mode, defaultConfig.entry op = some (m, .known mode) ∧ i.form = some (m, mode.operand b1 b2) ∧
      (encode i).length =
        (if mode = .imp then 1
         else if mode = .abs ∨ mode = .abx ∨ mode = .aby then 3 else 2)

/-! ## The step -/

/-- R100: when the bytes at pc are those of a well-formed instruction, the step of a RUNNING engine is `exec` of it, on
the state before the fetch. -/
def Obligations.StepRunsTheDecodedInstruction : Prop :=
  ∀ (i : Instr) (s : State), s.run = .running → i.wellFormed = true → s.holds (encode i) → step s = exec i s

/-- R211, R89, R90: a byte without an entry halts the engine with `UnknownOpcode{byte, pc0}`; the state is left exactly as
before the fetch. -/
def Obligations.StepHaltsOnUnknownOpcode : Prop :=
  ∀ s : State, s.run = .running → (s.read s.pc ∈ undocumentedBytes ∨ s.read s.pc = 0x6C) →
    step s = .next { s with run := .halted (.unknownOpcode (s.read s.pc) s.pc) }

/-- R215: once HALTED no step is enabled (the model's form of that is the fault `engineHalted`, log 2), and no number of
host steps changes the state. -/
def Obligations.HaltedEngineStaysHalted : Prop :=
  ∀ (s : State) (reason : HaltReason), s.run = .halted reason →
    step s = .fault (.engineHalted reason) ∧
    ∀ k, runFor defaultConfig k s = .ended s

/-- R219, R215: a RUNNING engine always has a step: arithmetic, stack, address arithmetic and memory reads never fault. -/
def Obligations.RunningEngineAlwaysSteps : Prop :=
  ∀ s : State, s.run = .running → ∃ t, step s = .next t

/-- R218: fatal halts are precise. The state is the state before the failing instruction, with pc = pc0, and the payload
names pc0. The restoring of pc by the halts other than UnknownOpcode is the spec's decision D13. -/
def Obligations.FatalHaltsArePrecise : Prop :=
  ∀ (c : Config) (s t : State) (reason : HaltReason),
    stepWith c s = .next t → t.run = .halted reason → reason.fatal = true →
    t = { s with run := .halted reason } ∧ reason.pc0 = s.pc

/-- R72, R87, R213: with the default table and `UNIMPLEMENTED_SET` a step halts by BRK, at a byte without an entry or at
RTI, and for no other reason; InvalidAddressingMode cannot occur. -/
def Obligations.DefaultEngineHaltsOnlyThreeWays : Prop :=
  ∀ (s t : State) (reason : HaltReason), step s = .next t → t.run = .halted reason →
    (reason = .brk s.pc ∧ s.read s.pc = 0x00) ∨
    (reason = .unknownOpcode (s.read s.pc) s.pc ∧ (s.read s.pc ∈ undocumentedBytes ∨ s.read s.pc = 0x6C)) ∨
    (reason = .unimplementedMnemonic .RTI s.pc ∧ s.read s.pc = 0x40)

/-- R101: a handler that does not change pc leaves it at the address of the next instruction in sequence. -/
def Obligations.SequentialPcUnlessControlTransfer : Prop :=
  ∀ (i : Instr) (m : Mnemonic) (o : Operand) (s t : State), i.form = some (m, o) →
    m ∉ [Mnemonic.JMP, .JSR, .RTS, .BCC, .BCS, .BEQ, .BNE, .BMI, .BPL, .BVC, .BVS, .RTI] →
    exec i s = .next t → t.pc = nextPc o s

/-- R6, R72, R100: the step of this hardware is the parametric engine's step at the default values of the four
parameters. That `step` is the engine at those values is the model's choice (log 1). -/
def Obligations.StepIsTheParametricEngineAtDefaults : Prop :=
  ∀ s : State, step s = stepWith defaultConfig s

/-! ## The parametric engine: any opcode table, unimplemented set and overflow setting -/

/-- R71, R211, R217(1): under any accepted configuration a byte without an entry halts with UnknownOpcode, before anything
else is checked. -/
def Obligations.AbsentEntryHaltsUnderAnyTable : Prop :=
  ∀ (c : Config) (s : State), c.accepted = true → s.run = .running →
    (∀ row ∈ c.opcodeTable, row.opcode = s.read s.pc → row.excluded = true) →
    stepWith c s = .next { s with run := .halted (.unknownOpcode (s.read s.pc) s.pc) }

/-- R87, R213(a), R217(2): an entry whose mode is not one of the eleven halts with InvalidAddressingMode, before the
unimplemented check and before any operand byte counts. -/
def Obligations.UnrecognisedModeHaltsFirst : Prop :=
  ∀ (c : Config) (s : State) (m : Mnemonic) (code : ModeCode), c.accepted = true → s.run = .running →
    c.entry (s.read s.pc) = some (m, code) → (∀ mode, code ≠ .known mode) →
    stepWith c s = .next { s with run := .halted (.invalidAddressingMode code s.pc) }

/-- R212, R217(3): an entry with a recognised mode whose mnemonic is in `UNIMPLEMENTED_SET` halts with
UnimplementedMnemonic; pc is restored (the spec's decision D13). -/
def Obligations.UnimplementedSetHalts : Prop :=
  ∀ (c : Config) (s : State) (m : Mnemonic) (mode : Mode), c.accepted = true → s.run = .running →
    c.entry (s.read s.pc) = some (m, .known mode) → m ∈ c.unimplemented →
    stepWith c s = .next { s with run := .halted (.unimplementedMnemonic m s.pc) }

/-- R105, R213(b), R217(4): an implemented NEEDS_ADDRESS mnemonic whose entry has the Implicit mode halts with
InvalidAddressingMode (the spec's decision D23). -/
def Obligations.MissingAddressHalts : Prop :=
  ∀ (c : Config) (s : State) (m : Mnemonic), c.accepted = true → s.run = .running →
    c.entry (s.read s.pc) = some (m, .known .imp) → m ∉ c.unimplemented →
    m ∈ [Mnemonic.LDA, .LDX, .LDY, .STA, .STX, .STY, .ADC, .SBC, .AND, .ORA, .EOR, .BIT, .CMP, .CPX, .CPY, .INC, .DEC,
      .JMP, .JSR, .BCC, .BCS, .BEQ, .BNE, .BMI, .BPL, .BVC, .BVS] →
    stepWith c s = .next { s with run := .halted (.invalidAddressingMode (.known .imp) s.pc) }

/-- R105: a mnemonic of class IGNORES_ADDRESS runs under any mode, and the operand bytes the mode consumes are still
consumed: here for the pc of those that do not transfer control. -/
def Obligations.IgnoredOperandBytesAreConsumed : Prop :=
  ∀ (c : Config) (s : State) (m : Mnemonic) (mode : Mode), c.accepted = true → s.run = .running →
    c.entry (s.read s.pc) = some (m, .known mode) → m ∉ c.unimplemented →
    m ∈ [Mnemonic.BRK, .CLC, .CLD, .CLI, .CLV, .DEX, .DEY, .INX, .INY, .NOP, .PHA, .PHP, .PLA, .PLP, .SEC, .SED, .SEI,
      .TAX, .TAY, .TSX, .TXA, .TXS, .TYA] →
    ∃ t, stepWith c s = .next t ∧
      t.pc = s.pc + (if mode = .imp then 1 else if mode = .abs ∨ mode = .abx ∨ mode = .aby then 3 else 2)

/-- R90: the default configuration with 0x6C added under the mode code IND halts with `InvalidAddressingMode{IND, pc0}` at
that byte, where the default halts with `UnknownOpcode{0x6C, pc0}`. -/
def Obligations.IndirectJumpUnderBothTables : Prop :=
  ∀ s : State, s.run = .running → s.read s.pc = 0x6C →
    stepWith { defaultConfig with opcodeTable := defaultTable ++ [{ opcode := 0x6C, mnemonic := .JMP, mode := .ind }] } s
      = .next { s with run := .halted (.invalidAddressingMode .ind s.pc) } ∧
    stepWith defaultConfig s = .next { s with run := .halted (.unknownOpcode 0x6C s.pc) }

/-- R136: with `ARITH_V = PRESERVE`, ADC and SBC keep V and give everything else as under SIGNED_OVERFLOW; no other step
depends on the setting (the parameter is the spec's decision D5). -/
def Obligations.PreserveSettingKeepsOnlyV : Prop :=
  ∀ (c : Config) (s t : State) (m : Mnemonic) (code : ModeCode), c.entry (s.read s.pc) = some (m, code) →
    stepWith { c with arithV := .signedOverflow } s = .next t →
    (m = .ADC ∨ m = .SBC → stepWith { c with arithV := .preserve } s
      = .next { t with flags := { t.flags with V := s.flags.V } }) ∧
    (m ≠ .ADC → m ≠ .SBC → stepWith { c with arithV := .preserve } s = .next t)

/-! ## Reset and the host -/

/-- R37, R230: the state after creation. The zeros of A, X, Y and the flags and the pc are the spec's decisions D2, D3 and
D25. -/
def Obligations.ResetLeavesTheListedValues : Prop :=
  let s := State.reset
  s.A = 0x00 ∧ s.X = 0x00 ∧ s.Y = 0x00 ∧
  s.flags.N = false ∧ s.flags.V = false ∧ s.flags.B = false ∧ s.flags.D = false ∧ s.flags.I = false ∧
  s.flags.Z = false ∧ s.flags.C = false ∧
  s.sp = 0xFF ∧ s.pc = 0x0600 ∧ s.run = .running ∧ ∀ a : Address, s.read a = 0x00

/-- R44: `load` copies the image from 0x0600 on, sets pc to 0x0600 and changes nothing else; a longer image than 64000
bytes fails (the limit is the spec's decision D18). -/
def Obligations.LoadCopiesTheImageVerbatim : Prop :=
  ∀ (s : State) (image : List Byte),
    (image.length ≤ 64000 → ∃ t, s.load image = .ok t ∧
      (∀ k b, image[k]? = some b → t.read (0x0600 + BitVec.ofNat 16 k) = b) ∧
      (∀ a : Address, a.toNat < 0x0600 ∨ 0x0600 + image.length ≤ a.toNat → t.read a = s.read a) ∧
      t = { s with pc := 0x0600, mem := t.mem }) ∧
    (64000 < image.length → s.load image = .error .loadTooLarge)

/-- R106, R107, R226: a run with a ceiling of `k` steps comes out HALTED or, with the engine still RUNNING after exactly
`k` steps of it, as StepLimit. -/
def Obligations.BoundedRunEndsHaltedOrAtTheLimit : Prop :=
  ∀ (k : Nat) (s : State),
    (∃ t reason j, j ≤ k ∧ runFor defaultConfig k s = .ended t ∧ ReachesIn j s t ∧ t.run = .halted reason) ∨
    (∃ t, runFor defaultConfig k s = .stepLimit t ∧ ReachesIn k s t ∧ t.run = .running)

/-- R106, R107: a run has at most one outcome; without a ceiling that outcome is a HALTED state, and every run with a
ceiling that reaches the halt comes out in the same state. The form of the run is the model's (log 13). -/
def Obligations.RunHasAtMostOneOutcome : Prop :=
  ∀ (c : Config) (s : State),
    (∀ out out', RunOf c s out → RunOf c s out' → out = out') ∧
    (c.maxSteps = none → ∀ out, RunOf c s out → ∃ t reason, out = .ended t ∧ t.run = .halted reason) ∧
    (c.accepted = true → ∀ j k t, runFor c j s = .ended t → j ≤ k → runFor c k s = .ended t)

/-! ## Memory and addresses -/

/-- R42: a write stores the byte at its address and changes no other byte, no register, no flag, no sp and no pc; so a read
(R41) returns the byte of the latest write to its address (R61). -/
def Obligations.ReadReturnsTheLatestWrite : Prop :=
  ∀ (s : State) (a b : Address) (v : Byte),
    (s.store a v).read b = (if b = a then v else s.read b) ∧
    s.store a v = { s with mem := (s.store a v).mem }

/-- R79, R80, R81, R82: the zero-page sums are not wrapped, so they may reach 0x01FE (R58); the two bytes of an absolute
address are little-endian. -/
def Obligations.ZeroPageAndAbsoluteAddressesAreExact : Prop :=
  ∀ (b lo hi : Byte) (s : State),
    (effectiveAddress (.zp b) s).toNat = b.toNat ∧
    (effectiveAddress (.zpx b) s).toNat = b.toNat + s.X.toNat ∧
    (effectiveAddress (.zpy b) s).toNat = b.toNat + s.Y.toNat ∧
    (effectiveAddress (.abs lo hi) s).toNat = lo.toNat + hi.toNat * 256

/-- R83, R84: the indexed absolute sums are modulo 65536 (the spec's decision D1). -/
def Obligations.IndexedAbsoluteFormsWrapAt65536 : Prop :=
  ∀ (lo hi : Byte) (s : State),
    (effectiveAddress (.abx lo hi) s).toNat = (lo.toNat + hi.toNat * 256 + s.X.toNat) % 65536 ∧
    (effectiveAddress (.aby lo hi) s).toNat = (lo.toNat + hi.toNat * 256 + s.Y.toNat) % 65536

/-- R85, R86: the pointer bytes are read without a zero-page wrap, little-endian; the sum with Y is modulo 65536 (the
spec's decision D1). -/
def Obligations.PointerFormsReadPastTheZeroPage : Prop :=
  ∀ (b : Byte) (s : State),
    (effectiveAddress (.izx b) s).toNat =
      (s.read (BitVec.ofNat 16 (b.toNat + s.X.toNat))).toNat +
      (s.read (BitVec.ofNat 16 (b.toNat + s.X.toNat + 1))).toNat * 256 ∧
    (effectiveAddress (.izy b) s).toNat =
      ((s.read (BitVec.ofNat 16 b.toNat)).toNat + (s.read (BitVec.ofNat 16 (b.toNat + 1))).toNat * 256 +
        s.Y.toNat) % 65536

/-- R77, R78, R104: the relative target is the address after the offset byte plus the signed offset, modulo 65536 (the
spec's decision D1); the immediate operand is the byte after the opcode, at pc0 + 1. When the instruction's bytes lie
at pc, that byte is what memory holds at the effective address. -/
def Obligations.RelativeAndImmediateForms : Prop :=
  ∀ (b : Byte) (s : State),
    ((effectiveAddress (.rel b) s).toNat : Int) =
      ((s.pc.toNat : Int) + 2 + (if b.toNat < 0x80 then (b.toNat : Int) else b.toNat - 256)) % 65536 ∧
    effectiveAddress (.imm b) s = s.pc + 1 ∧ operandByte (.imm b) s = b ∧
    ∀ i m, i.form = some (m, .ref (.imm b)) → s.holds (encode i) → s.read (effectiveAddress (.imm b) s) = b

/-! ## Load, store, transfer, stack -/

/-- R111, R112, R113: a load writes its register and Z and N from the byte loaded, and nothing else but pc. That LDA, LDX
and LDY name these operations is the spec's decision D29. -/
def Obligations.LoadsSetRegisterAndZN : Prop :=
  ∀ (i : Instr) (r : Ref) (s : State),
    (i.form = some (.LDA, .ref r) →
      (r.mode, i.opcode) ∈ [(Mode.izx, 0xA1), (.zp, 0xA5), (.imm, 0xA9), (.abs, 0xAD), (.izy, 0xB1), (.zpx, 0xB5),
        (.aby, 0xB9), (.abx, 0xBD)] ∧
      exec i s = .next { s with
        pc := nextPc (.ref r) s, A := operandByte r s,
        flags := { s.flags with Z := operandByte r s == 0, N := (operandByte r s).getLsbD 7 } }) ∧
    (i.form = some (.LDX, .ref r) →
      (r.mode, i.opcode) ∈ [(Mode.imm, 0xA2), (.zp, 0xA6), (.abs, 0xAE), (.zpy, 0xB6), (.aby, 0xBE)] ∧
      exec i s = .next { s with
        pc := nextPc (.ref r) s, X := operandByte r s,
        flags := { s.flags with Z := operandByte r s == 0, N := (operandByte r s).getLsbD 7 } }) ∧
    (i.form = some (.LDY, .ref r) →
      (r.mode, i.opcode) ∈ [(Mode.imm, 0xA0), (.zp, 0xA4), (.abs, 0xAC), (.zpx, 0xB4), (.abx, 0xBC)] ∧
      exec i s = .next { s with
        pc := nextPc (.ref r) s, Y := operandByte r s,
        flags := { s.flags with Z := operandByte r s == 0, N := (operandByte r s).getLsbD 7 } })

/-- R114, R115, R116: a store writes its register to the byte at the effective address, and no flag.
The operations are the spec's decision D29. -/
def Obligations.StoresWriteOneByteAndNoFlag : Prop :=
  ∀ (i : Instr) (r : Ref) (s : State),
    (i.form = some (.STA, .ref r) →
      (r.mode, i.opcode) ∈ [(Mode.izx, 0x81), (.zp, 0x85), (.abs, 0x8D), (.izy, 0x91), (.zpx, 0x95), (.aby, 0x99),
        (.abx, 0x9D)] ∧
      exec i s = .next { s with pc := nextPc (.ref r) s, mem := Memory.write s.mem (effectiveAddress r s) s.A }) ∧
    (i.form = some (.STX, .ref r) →
      (r.mode, i.opcode) ∈ [(Mode.zp, 0x86), (.abs, 0x8E), (.zpy, 0x96)] ∧
      exec i s = .next { s with pc := nextPc (.ref r) s, mem := Memory.write s.mem (effectiveAddress r s) s.X }) ∧
    (i.form = some (.STY, .ref r) →
      (r.mode, i.opcode) ∈ [(Mode.zp, 0x84), (.abs, 0x8C), (.zpx, 0x94)] ∧
      exec i s = .next { s with pc := nextPc (.ref r) s, mem := Memory.write s.mem (effectiveAddress r s) s.Y })

/-- R121 to R126: a transfer into A, X or Y sets Z and N; TXS writes no flag. The operations are the spec's
decision D29. -/
def Obligations.TransfersCopyTheirSource : Prop :=
  ∀ s : State,
    (encode .tax = [0xAA] ∧ exec .tax s = .next { s with
      pc := s.pc + 1, X := s.A, flags := { s.flags with Z := s.A == 0, N := s.A.getLsbD 7 } }) ∧
    (encode .tay = [0xA8] ∧ exec .tay s = .next { s with
      pc := s.pc + 1, Y := s.A, flags := { s.flags with Z := s.A == 0, N := s.A.getLsbD 7 } }) ∧
    (encode .txa = [0x8A] ∧ exec .txa s = .next { s with
      pc := s.pc + 1, A := s.X, flags := { s.flags with Z := s.X == 0, N := s.X.getLsbD 7 } }) ∧
    (encode .tya = [0x98] ∧ exec .tya s = .next { s with
      pc := s.pc + 1, A := s.Y, flags := { s.flags with Z := s.Y == 0, N := s.Y.getLsbD 7 } }) ∧
    (encode .tsx = [0xBA] ∧ exec .tsx s = .next { s with
      pc := s.pc + 1, X := s.sp, flags := { s.flags with Z := s.sp == 0, N := s.sp.getLsbD 7 } }) ∧
    (encode .txs = [0x9A] ∧ exec .txs s = .next { s with pc := s.pc + 1, sp := s.X })

/-- R127, R128, R45, R28: PHA and PHP write at 0x0100 + sp and then decrement sp, modulo 256. The byte PHP pushes holds each
flag at its bit and bit 5 as 0 (the spec's decision D4), B as stored (D14). That PHA and PHP push A and the flags is D29. -/
def Obligations.PushesStoreAtTheStackTop : Prop :=
  ∀ s : State,
    (encode .pha = [0x48] ∧ exec .pha s = .next { s with
      pc := s.pc + 1, sp := s.sp - 1, mem := Memory.write s.mem (0x0100 + zext16 s.sp) s.A }) ∧
    encode .php = [0x08] ∧
    ∃ p : Byte,
      exec .php s = .next { s with
        pc := s.pc + 1, sp := s.sp - 1, mem := Memory.write s.mem (0x0100 + zext16 s.sp) p } ∧
      p.getLsbD 7 = s.flags.N ∧ p.getLsbD 6 = s.flags.V ∧ p.getLsbD 5 = false ∧ p.getLsbD 4 = s.flags.B ∧
      p.getLsbD 3 = s.flags.D ∧ p.getLsbD 2 = s.flags.I ∧ p.getLsbD 1 = s.flags.Z ∧ p.getLsbD 0 = s.flags.C

/-- R129, R130, R46, R29: PLA and PLP increment sp, modulo 256, and read at 0x0100 + sp; PLA goes through `result`, PLP sets
every flag from its own bit of the byte and ignores bit 5. That they pull A and the flags is the spec's decision D29. -/
def Obligations.PullsReadAboveTheStackTop : Prop :=
  ∀ (s : State) (v : Byte), v = s.read (0x0100 + zext16 (s.sp + 1)) →
    (encode .pla = [0x68] ∧ exec .pla s = .next { s with
      pc := s.pc + 1, sp := s.sp + 1, A := v, flags := { s.flags with Z := v == 0, N := v.getLsbD 7 } }) ∧
    (encode .plp = [0x28] ∧ exec .plp s = .next { s with
      pc := s.pc + 1, sp := s.sp + 1,
      flags := {
        N := v.getLsbD 7, V := v.getLsbD 6, B := v.getLsbD 4, D := v.getLsbD 3, I := v.getLsbD 2,
        Z := v.getLsbD 1, C := v.getLsbD 0 } })

/-! ## Arithmetic, logic, compare -/

/-- R137, R135, R136: the sum of A, M and C; C is the sum above 255, A the sum modulo 256, V a two's-complement sum outside
-128..127 (`ARITH_V` at its default SIGNED_OVERFLOW, the spec's decision D5). D has no effect. -/
def Obligations.AdcAddsWithCarry : Prop :=
  ∀ (i : Instr) (r : Ref) (s : State), i.form = some (.ADC, .ref r) →
    let m := operandByte r s
    let t := s.A.toNat + m.toNat + s.flags.C.toNat
    let signed := s.A.toInt + m.toInt + (s.flags.C.toNat : Int)
    (r.mode, i.opcode) ∈ [(Mode.izx, 0x61), (.zp, 0x65), (.imm, 0x69), (.abs, 0x6D), (.izy, 0x71), (.zpx, 0x75),
      (.aby, 0x79), (.abx, 0x7D)] ∧
    exec i s = .next { s with
      pc := nextPc (.ref r) s, A := BitVec.ofNat 8 t,
      flags := { s.flags with
        C := decide (255 < t), Z := decide (t % 256 = 0), N := decide (128 ≤ t % 256),
        V := decide (signed < -128 ∨ 127 < signed) } }

/-- R138, R135, R136: A less M less the borrow 1 - C; C is the difference not below 0 (pre-wrap), A the difference modulo
256, V a two's-complement difference outside -128..127 (SIGNED_OVERFLOW, the spec's decision D5). -/
def Obligations.SbcSubtractsWithBorrow : Prop :=
  ∀ (i : Instr) (r : Ref) (s : State), i.form = some (.SBC, .ref r) →
    let m := operandByte r s
    let t : Int := (s.A.toNat : Int) - m.toNat - (1 - s.flags.C.toNat)
    let signed := s.A.toInt - m.toInt - (1 - (s.flags.C.toNat : Int))
    (r.mode, i.opcode) ∈ [(Mode.izx, 0xE1), (.zp, 0xE5), (.imm, 0xE9), (.abs, 0xED), (.izy, 0xF1), (.zpx, 0xF5),
      (.aby, 0xF9), (.abx, 0xFD)] ∧
    exec i s = .next { s with
      pc := nextPc (.ref r) s, A := BitVec.ofInt 8 t,
      flags := { s.flags with
        C := decide (0 ≤ t), Z := decide (t % 256 = 0), N := decide (128 ≤ t % 256),
        V := decide (signed < -128 ∨ 127 < signed) } }

/-- R139, R140, R141, R142: AND, ORA and EOR combine A with M and set Z and N; BIT sets Z from A & M, N and V from M, and
leaves A. The operations are the NMOS ones, from general knowledge (the spec's decisions D6 and D29). -/
def Obligations.LogicAndBitTest : Prop :=
  ∀ (i : Instr) (r : Ref) (s : State),
    (i.form = some (.AND, .ref r) →
      (r.mode, i.opcode) ∈ [(Mode.izx, 0x21), (.zp, 0x25), (.imm, 0x29), (.abs, 0x2D), (.izy, 0x31), (.zpx, 0x35),
        (.aby, 0x39), (.abx, 0x3D)] ∧
      ∃ v : Byte, (∀ k, k < 8 → v.getLsbD k = (s.A.getLsbD k && (operandByte r s).getLsbD k)) ∧
        exec i s = .next { s with
          pc := nextPc (.ref r) s, A := v, flags := { s.flags with Z := v == 0, N := v.getLsbD 7 } }) ∧
    (i.form = some (.ORA, .ref r) →
      (r.mode, i.opcode) ∈ [(Mode.izx, 0x01), (.zp, 0x05), (.imm, 0x09), (.abs, 0x0D), (.izy, 0x11), (.zpx, 0x15),
        (.aby, 0x19), (.abx, 0x1D)] ∧
      ∃ v : Byte, (∀ k, k < 8 → v.getLsbD k = (s.A.getLsbD k || (operandByte r s).getLsbD k)) ∧
        exec i s = .next { s with
          pc := nextPc (.ref r) s, A := v, flags := { s.flags with Z := v == 0, N := v.getLsbD 7 } }) ∧
    (i.form = some (.EOR, .ref r) →
      (r.mode, i.opcode) ∈ [(Mode.izx, 0x41), (.zp, 0x45), (.imm, 0x49), (.abs, 0x4D), (.izy, 0x51), (.zpx, 0x55),
        (.aby, 0x59), (.abx, 0x5D)] ∧
      ∃ v : Byte, (∀ k, k < 8 → v.getLsbD k = (s.A.getLsbD k ^^ (operandByte r s).getLsbD k)) ∧
        exec i s = .next { s with
          pc := nextPc (.ref r) s, A := v, flags := { s.flags with Z := v == 0, N := v.getLsbD 7 } }) ∧
    (i.form = some (.BIT, .ref r) →
      (r.mode, i.opcode) ∈ [(Mode.zp, 0x24), (.abs, 0x2C)] ∧
      exec i s = .next { s with
        pc := nextPc (.ref r) s,
        flags := { s.flags with
          Z := s.A &&& operandByte r s == 0, N := (operandByte r s).getLsbD 7, V := (operandByte r s).getLsbD 6 } })

/-- R143, R144, R145: C is register ≥ M, unsigned; Z is equality; N is bit 7 of the wrapped difference; the register and V
keep their values. -/
def Obligations.ComparesSetCarryZeroNegative : Prop :=
  ∀ (i : Instr) (r : Ref) (s : State),
    (i.form = some (.CMP, .ref r) →
      (r.mode, i.opcode) ∈ [(Mode.izx, 0xC1), (.zp, 0xC5), (.imm, 0xC9), (.abs, 0xCD), (.izy, 0xD1), (.zpx, 0xD5),
        (.aby, 0xD9), (.abx, 0xDD)] ∧
      exec i s = .next { s with
        pc := nextPc (.ref r) s,
        flags := { s.flags with
          C := decide ((operandByte r s).toNat ≤ s.A.toNat), Z := decide (s.A = operandByte r s),
          N := (s.A - operandByte r s).getLsbD 7 } }) ∧
    (i.form = some (.CPX, .ref r) →
      (r.mode, i.opcode) ∈ [(Mode.imm, 0xE0), (.zp, 0xE4), (.abs, 0xEC)] ∧
      exec i s = .next { s with
        pc := nextPc (.ref r) s,
        flags := { s.flags with
          C := decide ((operandByte r s).toNat ≤ s.X.toNat), Z := decide (s.X = operandByte r s),
          N := (s.X - operandByte r s).getLsbD 7 } }) ∧
    (i.form = some (.CPY, .ref r) →
      (r.mode, i.opcode) ∈ [(Mode.imm, 0xC0), (.zp, 0xC4), (.abs, 0xCC)] ∧
      exec i s = .next { s with
        pc := nextPc (.ref r) s,
        flags := { s.flags with
          C := decide ((operandByte r s).toNat ≤ s.Y.toNat), Z := decide (s.Y = operandByte r s),
          N := (s.Y - operandByte r s).getLsbD 7 } })

/-! ## Increment, decrement, shift, rotate -/

/-- R151, R152: INC and DEC read the byte at the effective address, store it plus or minus 1 modulo 256 there, and set Z and
N from the stored byte. C and V keep their values. The operations are the spec's decision D29. -/
def Obligations.MemoryIncrementsAndDecrements : Prop :=
  ∀ (i : Instr) (r : Ref) (s : State) (v : Byte),
    (i.form = some (.INC, .ref r) → v = operandByte r s + 1 →
      (r.mode, i.opcode) ∈ [(Mode.zp, 0xE6), (.abs, 0xEE), (.zpx, 0xF6), (.abx, 0xFE)] ∧
      exec i s = .next { s with
        pc := nextPc (.ref r) s, mem := Memory.write s.mem (effectiveAddress r s) v,
        flags := { s.flags with Z := v == 0, N := v.getLsbD 7 } }) ∧
    (i.form = some (.DEC, .ref r) → v = operandByte r s - 1 →
      (r.mode, i.opcode) ∈ [(Mode.zp, 0xC6), (.abs, 0xCE), (.zpx, 0xD6), (.abx, 0xDE)] ∧
      exec i s = .next { s with
        pc := nextPc (.ref r) s, mem := Memory.write s.mem (effectiveAddress r s) v,
        flags := { s.flags with Z := v == 0, N := v.getLsbD 7 } })

/-- R153 to R156: INX, INY, DEX and DEY count X or Y by 1 modulo 256 and set Z and N (the spec's decision D29). -/
def Obligations.RegisterIncrementsAndDecrements : Prop :=
  ∀ s : State,
    (encode .inx = [0xE8] ∧ exec .inx s = .next { s with
      pc := s.pc + 1, X := s.X + 1, flags := { s.flags with Z := s.X + 1 == 0, N := (s.X + 1).getLsbD 7 } }) ∧
    (encode .iny = [0xC8] ∧ exec .iny s = .next { s with
      pc := s.pc + 1, Y := s.Y + 1, flags := { s.flags with Z := s.Y + 1 == 0, N := (s.Y + 1).getLsbD 7 } }) ∧
    (encode .dex = [0xCA] ∧ exec .dex s = .next { s with
      pc := s.pc + 1, X := s.X - 1, flags := { s.flags with Z := s.X - 1 == 0, N := (s.X - 1).getLsbD 7 } }) ∧
    (encode .dey = [0x88] ∧ exec .dey s = .next { s with
      pc := s.pc + 1, Y := s.Y - 1, flags := { s.flags with Z := s.Y - 1 == 0, N := (s.Y - 1).getLsbD 7 } })

/-- R160 to R164: the accumulator forms of ASL, LSR, ROL and ROR. `v` is the new A; V keeps its value. -/
def Obligations.ShiftsAndRotatesOfTheAccumulator : Prop :=
  ∀ (s : State) (v : Byte),
    (v = BitVec.ofNat 8 (2 * s.A.toNat) →
      encode .aslImp = [0x0A] ∧ exec .aslImp s = .next { s with
        pc := s.pc + 1, A := v,
        flags := { s.flags with C := decide (0x7F < s.A.toNat), Z := v == 0, N := v.getLsbD 7 } }) ∧
    (v = BitVec.ofNat 8 (s.A.toNat / 2) →
      encode .lsrImp = [0x4A] ∧ exec .lsrImp s = .next { s with
        pc := s.pc + 1, A := v,
        flags := { s.flags with C := s.A.getLsbD 0, Z := v == 0, N := false } }) ∧
    (v = BitVec.ofNat 8 (2 * s.A.toNat + s.flags.C.toNat) →
      encode .rolImp = [0x2A] ∧ exec .rolImp s = .next { s with
        pc := s.pc + 1, A := v,
        flags := { s.flags with C := s.A.getLsbD 7, Z := v == 0, N := v.getLsbD 7 } }) ∧
    (v = BitVec.ofNat 8 (s.A.toNat / 2 + 128 * s.flags.C.toNat) →
      encode .rorImp = [0x6A] ∧ exec .rorImp s = .next { s with
        pc := s.pc + 1, A := v,
        flags := { s.flags with C := s.A.getLsbD 0, Z := v == 0, N := s.flags.C } })

/-- R160 to R164: the memory forms of ASL, LSR, ROL and ROR apply the same computation to the byte at the effective address
and leave A (the spec's decision D7). `v` is the stored byte. -/
def Obligations.ShiftsAndRotatesOfMemory : Prop :=
  ∀ (i : Instr) (r : Ref) (s : State) (v : Byte),
    (i.form = some (.ASL, .ref r) → v = BitVec.ofNat 8 (2 * (operandByte r s).toNat) →
      (r.mode, i.opcode) ∈ [(Mode.zp, 0x06), (.abs, 0x0E), (.zpx, 0x16), (.abx, 0x1E)] ∧
      exec i s = .next { s with
        pc := nextPc (.ref r) s, mem := Memory.write s.mem (effectiveAddress r s) v,
        flags := { s.flags with C := decide (0x7F < (operandByte r s).toNat), Z := v == 0, N := v.getLsbD 7 } }) ∧
    (i.form = some (.LSR, .ref r) → v = BitVec.ofNat 8 ((operandByte r s).toNat / 2) →
      (r.mode, i.opcode) ∈ [(Mode.zp, 0x46), (.abs, 0x4E), (.zpx, 0x56), (.abx, 0x5E)] ∧
      exec i s = .next { s with
        pc := nextPc (.ref r) s, mem := Memory.write s.mem (effectiveAddress r s) v,
        flags := { s.flags with C := (operandByte r s).getLsbD 0, Z := v == 0, N := false } }) ∧
    (i.form = some (.ROL, .ref r) → v = BitVec.ofNat 8 (2 * (operandByte r s).toNat + s.flags.C.toNat) →
      (r.mode, i.opcode) ∈ [(Mode.zp, 0x26), (.abs, 0x2E), (.zpx, 0x36), (.abx, 0x3E)] ∧
      exec i s = .next { s with
        pc := nextPc (.ref r) s, mem := Memory.write s.mem (effectiveAddress r s) v,
        flags := { s.flags with C := (operandByte r s).getLsbD 7, Z := v == 0, N := v.getLsbD 7 } }) ∧
    (i.form = some (.ROR, .ref r) → v = BitVec.ofNat 8 ((operandByte r s).toNat / 2 + 128 * s.flags.C.toNat) →
      (r.mode, i.opcode) ∈ [(Mode.zp, 0x66), (.abs, 0x6E), (.zpx, 0x76), (.abx, 0x7E)] ∧
      exec i s = .next { s with
        pc := nextPc (.ref r) s, mem := Memory.write s.mem (effectiveAddress r s) v,
        flags := { s.flags with C := (operandByte r s).getLsbD 0, Z := v == 0, N := s.flags.C } })

/-! ## Flags, control transfer, system -/

/-- R171 to R177: each flag instruction writes exactly one flag and nothing else but pc (the spec's decision D29). -/
def Obligations.FlagInstructionsWriteOneFlag : Prop :=
  ∀ s : State,
    (encode .clc = [0x18] ∧ exec .clc s = .next { s with pc := s.pc + 1, flags := { s.flags with C := false } }) ∧
    (encode .sec = [0x38] ∧ exec .sec s = .next { s with pc := s.pc + 1, flags := { s.flags with C := true } }) ∧
    (encode .cli = [0x58] ∧ exec .cli s = .next { s with pc := s.pc + 1, flags := { s.flags with I := false } }) ∧
    (encode .sei = [0x78] ∧ exec .sei s = .next { s with pc := s.pc + 1, flags := { s.flags with I := true } }) ∧
    (encode .cld = [0xD8] ∧ exec .cld s = .next { s with pc := s.pc + 1, flags := { s.flags with D := false } }) ∧
    (encode .sed = [0xF8] ∧ exec .sed s = .next { s with pc := s.pc + 1, flags := { s.flags with D := true } }) ∧
    (encode .clv = [0xB8] ∧ exec .clv s = .next { s with pc := s.pc + 1, flags := { s.flags with V := false } })

/-- R181, R182, R183: JMP sets pc; JSR pushes the low and then the high byte of the address after it, and sets pc; RTS pulls
the high and then the low byte and adds nothing. The stack layout of the address is the spec's decision D8. -/
def Obligations.JumpsCallsAndReturns : Prop :=
  ∀ (lo hi : Byte) (s : State) (target : Address), target.toNat = lo.toNat + 256 * hi.toNat →
    (encode (.jmpAbs lo hi) = [0x4C, lo, hi] ∧ exec (.jmpAbs lo hi) s = .next { s with pc := target }) ∧
    (encode (.jsr lo hi) = [0x20, lo, hi] ∧
      ∃ rlo rhi : Byte, rlo.toNat + 256 * rhi.toNat = (s.pc.toNat + 3) % 65536 ∧
        exec (.jsr lo hi) s = .next { s with
          pc := target, sp := s.sp - 2,
          mem := Memory.write (Memory.write s.mem (0x0100 + zext16 s.sp) rlo) (0x0100 + zext16 (s.sp - 1)) rhi }) ∧
    (encode .rts = [0x60] ∧
      (s.read (0x0100 + zext16 (s.sp + 1)) = hi → s.read (0x0100 + zext16 (s.sp + 2)) = lo →
        exec .rts s = .next { s with pc := target, sp := s.sp + 2 }))

/-- R184 to R192, R77: a branch whose condition holds sets pc to pc0 + 2 plus the signed offset, modulo 65536 (the spec's
decision D1); otherwise pc is pc0 + 2. Nothing else is written. Which flag each tests is D29. -/
def Obligations.BranchesTestTheirFlag : Prop :=
  ∀ (o : Byte) (s : State) (target : Address),
    (target.toNat : Int) = ((s.pc.toNat : Int) + 2 + (if o.toNat < 0x80 then (o.toNat : Int) else o.toNat - 256)) % 65536 →
    (encode (.bcc o) = [0x90, o] ∧ exec (.bcc o) s = .next { s with pc := if s.flags.C = false then target else s.pc + 2 }) ∧
    (encode (.bcs o) = [0xB0, o] ∧ exec (.bcs o) s = .next { s with pc := if s.flags.C = true then target else s.pc + 2 }) ∧
    (encode (.beq o) = [0xF0, o] ∧ exec (.beq o) s = .next { s with pc := if s.flags.Z = true then target else s.pc + 2 }) ∧
    (encode (.bne o) = [0xD0, o] ∧ exec (.bne o) s = .next { s with pc := if s.flags.Z = false then target else s.pc + 2 }) ∧
    (encode (.bmi o) = [0x30, o] ∧ exec (.bmi o) s = .next { s with pc := if s.flags.N = true then target else s.pc + 2 }) ∧
    (encode (.bpl o) = [0x10, o] ∧ exec (.bpl o) s = .next { s with pc := if s.flags.N = false then target else s.pc + 2 }) ∧
    (encode (.bvc o) = [0x50, o] ∧ exec (.bvc o) s = .next { s with pc := if s.flags.V = false then target else s.pc + 2 }) ∧
    (encode (.bvs o) = [0x70, o] ∧ exec (.bvs o) s = .next { s with pc := if s.flags.V = true then target else s.pc + 2 })

/-- R200, R202: BRK halts with `Break{pc0}`, pc at pc0 + 1, and writes nothing else (the spec's decision D14); NOP only
advances pc (D29). -/
def Obligations.BreakHaltsAndNopDoesNothing : Prop :=
  ∀ s : State,
    (encode .brk = [0x00] ∧ exec .brk s = .next { s with pc := s.pc + 1, run := .halted (.brk s.pc) }) ∧
    (encode .nop = [0xEA] ∧ exec .nop s = .next { s with pc := s.pc + 1 })

/-- R201, R212, R90, R211: RTI halts with `UnimplementedMnemonic{RTI, pc0}` (the spec's decision D9) and the row of 0x6C with
`UnknownOpcode{0x6C, pc0}` (D10); pc stays pc0 and nothing else changes. The constructor of the excluded row is the
model's (log 7). -/
def Obligations.RtiAndIndirectJumpHaltPrecisely : Prop :=
  ∀ (lo hi : Byte) (s : State),
    (encode .rti = [0x40] ∧ exec .rti s = .next { s with run := .halted (.unimplementedMnemonic .RTI s.pc) }) ∧
    ((encode (.jmpInd lo hi)).head? = some 0x6C ∧ (Instr.jmpInd lo hi).wellFormed = false ∧
      exec (.jmpInd lo hi) s = .next { s with run := .halted (.unknownOpcode 0x6C s.pc) })

/-! ## Frames: what an instruction leaves unchanged -/

/-- R42, R110 to R202: an instruction other than the stores, the memory forms of INC, DEC and the shifts, and the pushes
leaves every byte of memory. -/
def Obligations.OnlyStoringFormsWriteMemory : Prop :=
  ∀ (i : Instr) (s t : State), exec i s = .next t →
    ¬ i.isOneOf [.STA, .STX, .STY, .INC, .DEC, .PHA, .PHP, .JSR] →
    (∀ m r, i.form = some (m, .ref r) → m ∉ [Mnemonic.ASL, .LSR, .ROL, .ROR]) →
    ∀ a, t.read a = s.read a

/-- R114 to R116, R151, R152, R160 to R164: a storing form leaves every byte but the one at its effective address, and
leaves A, X, Y, sp and the run state; the stores leave every flag, the others V, B, D and I. -/
def Obligations.StoringFormsWriteOnlyTheirByte : Prop :=
  ∀ (i : Instr) (m : Mnemonic) (r : Ref) (s t : State), i.form = some (m, .ref r) →
    m ∈ [Mnemonic.STA, .STX, .STY, .INC, .DEC, .ASL, .LSR, .ROL, .ROR] → exec i s = .next t →
    (∀ a, a ≠ effectiveAddress r s → t.read a = s.read a) ∧
    t.A = s.A ∧ t.X = s.X ∧ t.Y = s.Y ∧ t.sp = s.sp ∧ t.run = s.run ∧
    t.flags.V = s.flags.V ∧ t.flags.B = s.flags.B ∧ t.flags.D = s.flags.D ∧ t.flags.I = s.flags.I ∧
    (m ∈ [Mnemonic.STA, .STX, .STY] → t.flags = s.flags) ∧
    (m ∈ [Mnemonic.INC, .DEC] → t.flags.C = s.flags.C)

/-- R45, R50, R127, R128, R182: PHA and PHP leave every byte but the one at 0x0100 + sp, JSR every byte but that one and the
one at 0x0100 + (sp - 1), modulo 256 inside the stack page (R47); the three leave the registers, the flags and the run
state. -/
def Obligations.PushesWriteOnlyTheStackTop : Prop :=
  ∀ (s t : State),
    (exec .pha s = .next t ∨ exec .php s = .next t →
      (∀ a, a ≠ stackAddress s.sp → t.read a = s.read a) ∧
      t.A = s.A ∧ t.X = s.X ∧ t.Y = s.Y ∧ t.flags = s.flags ∧ t.run = s.run ∧ t.sp = s.sp - 1) ∧
    ∀ lo hi, exec (.jsr lo hi) s = .next t →
      (∀ a, a ≠ stackAddress s.sp → a ≠ stackAddress (s.sp - 1) → t.read a = s.read a) ∧
      t.A = s.A ∧ t.X = s.X ∧ t.Y = s.Y ∧ t.flags = s.flags ∧ t.run = s.run ∧ t.sp = s.sp - 2

/-- R24: the table of flag writers, for every instruction. "No instruction writes a flag as a side effect beyond this
table." -/
def Obligations.FlagsChangeOnlyByTheirWriters : Prop :=
  ∀ (i : Instr) (s t : State), exec i s = .next t →
    (t.flags.N ≠ s.flags.N → i.isOneOf [.LDA, .LDX, .LDY, .TAX, .TAY, .TXA, .TYA, .TSX, .PLA, .ADC, .SBC, .AND, .ORA,
      .EOR, .CMP, .CPX, .CPY, .INC, .DEC, .INX, .INY, .DEX, .DEY, .ASL, .LSR, .ROL, .ROR, .BIT, .PLP]) ∧
    (t.flags.Z ≠ s.flags.Z → i.isOneOf [.LDA, .LDX, .LDY, .TAX, .TAY, .TXA, .TYA, .TSX, .PLA, .ADC, .SBC, .AND, .ORA,
      .EOR, .CMP, .CPX, .CPY, .INC, .DEC, .INX, .INY, .DEX, .DEY, .ASL, .LSR, .ROL, .ROR, .BIT, .PLP]) ∧
    (t.flags.C ≠ s.flags.C → i.isOneOf [.ADC, .SBC, .CMP, .CPX, .CPY, .ASL, .LSR, .ROL, .ROR, .CLC, .SEC, .PLP]) ∧
    (t.flags.V ≠ s.flags.V → i.isOneOf [.ADC, .SBC, .BIT, .CLV, .PLP]) ∧
    (t.flags.I ≠ s.flags.I → i.isOneOf [.CLI, .SEI, .PLP]) ∧
    (t.flags.D ≠ s.flags.D → i.isOneOf [.CLD, .SED, .PLP]) ∧
    (t.flags.B ≠ s.flags.B → i.isOneOf [.PLP])

/-- R20, R31, R33: the registers, sp and the run state change only by the instructions whose rules write them. -/
def Obligations.RegistersChangeOnlyByTheirWriters : Prop :=
  ∀ (i : Instr) (s t : State), exec i s = .next t →
    (t.A ≠ s.A → i.isOneOf [.LDA, .TXA, .TYA, .PLA, .ADC, .SBC, .AND, .ORA, .EOR] ∨
      i = .aslImp ∨ i = .lsrImp ∨ i = .rolImp ∨ i = .rorImp) ∧
    (t.X ≠ s.X → i.isOneOf [.LDX, .TAX, .TSX, .INX, .DEX]) ∧
    (t.Y ≠ s.Y → i.isOneOf [.LDY, .TAY, .INY, .DEY]) ∧
    (t.sp ≠ s.sp → i.isOneOf [.TXS, .PHA, .PHP, .PLA, .PLP, .JSR, .RTS]) ∧
    (t.run ≠ s.run → i.isOneOf [.BRK, .RTI] ∨ i.wellFormed = false)

/-! ## Whole-machine rules -/

/-- The canonical form of memory holds after creation (R230, R41). -/
def Obligations.ResetMemoryIsCanonical : Prop :=
  Memory.wf State.reset.mem ∧ ∀ a : Address, State.reset.read a = 0x00

/-- Every step keeps memory in its canonical form, so that equal memories are equal data (R38, R40): the step of this
hardware, and the parametric engine's under any configuration. -/
def Obligations.StepKeepsMemoryCanonical : Prop :=
  (∀ s t : State, Memory.wf s.mem → step s = .next t → Memory.wf t.mem) ∧
  (∀ (c : Config) (s t : State), Memory.wf s.mem → stepWith c s = .next t → Memory.wf t.mem)

/-- R38: two canonical memories that read alike at every address are the same data. -/
def Obligations.CanonicalMemoriesThatReadAlikeAreEqual : Prop :=
  ∀ m n : Memory, Memory.wf m → Memory.wf n → (∀ a, Memory.read m a = Memory.read n a) → m = n

/-- R25, R26, R27: D, I and B influence nothing but PHP: with one of them replaced before any other instruction, the state
after is the same but for that flag. -/
def Obligations.StoredOnlyFlagsReachOnlyPhp : Prop :=
  ∀ (i : Instr) (s t : State) (f : Bool), ¬ i.isOneOf [.PHP] → exec i s = .next t →
    (∃ g, exec i (s.withD f) = .next (t.withD g)) ∧
    (∃ g, exec i (s.withI f) = .next (t.withI g)) ∧
    (∃ g, exec i (s.withB f) = .next (t.withB g))

/-- R47: push and pull are exact inverses. Up to 256 bytes pushed in a row are pulled in reverse order and sp returns to its
value, wherever it started in the page. -/
def Obligations.StackReturnsPushedBytesInReverse : Prop :=
  ∀ (s : State) (vs : List Byte), vs.length ≤ 256 →
    ((s.pushAll vs).pullAll vs.length).1 = vs.reverse ∧ ((s.pushAll vs).pullAll vs.length).2.sp = s.sp

/-- R182, R183, R50, R51: an RTS that finds the stack as JSR left it returns to the instruction after the JSR and gives sp
back. -/
def Obligations.ReturnGoesToTheInstructionAfterTheCall : Prop :=
  ∀ (lo hi : Byte) (s t u : State), exec (.jsr lo hi) s = .next t → u.sp = t.sp →
    u.read (stackAddress s.sp) = t.read (stackAddress s.sp) →
    u.read (stackAddress (s.sp - 1)) = t.read (stackAddress (s.sp - 1)) →
    exec .rts u = .next { u with pc := s.pc + 3, sp := s.sp }

/-- R29, R128, R130: PHP then PLP restores every flag, whatever the flags became in between; PLP of a byte, then PHP in any
state with the flags PLP left, stores that byte with bit 5 cleared (bit 5 as 0 is the spec's decision D4). -/
def Obligations.StatusByteRoundTrips : Prop :=
  (∀ s t u : State, exec .php s = .next t → u.sp = t.sp → u.mem = t.mem →
    exec .plp u = .next { u with pc := u.pc + 1, sp := s.sp, flags := s.flags }) ∧
  ∀ s t u : State, exec .plp s = .next t → u.flags = t.flags →
    exec .php u = .next { u with
      pc := u.pc + 1, sp := u.sp - 1,
      mem := Memory.write u.mem (stackAddress u.sp) (s.read (stackAddress (s.sp + 1)) &&& 0xDF) }

/-- R63: a write is seen by the next fetch, whichever of the next instruction's bytes it writes: first the nine mnemonics
that store to their effective address (`v` is the byte each stores), then PHA and PHP, then JSR with its two bytes. Every
byte not written is fetched as it was. -/
def Obligations.StoreIntoCodeIsSeenByTheNextFetch : Prop :=
  (∀ (i : Instr) (r : Ref) (s t : State) (v : Byte), exec i s = .next t →
    (i.form = some (.STA, .ref r) ∧ v = s.A ∨
     i.form = some (.STX, .ref r) ∧ v = s.X ∨
     i.form = some (.STY, .ref r) ∧ v = s.Y ∨
     i.form = some (.INC, .ref r) ∧ v = operandByte r s + 1 ∨
     i.form = some (.DEC, .ref r) ∧ v = operandByte r s - 1 ∨
     i.form = some (.ASL, .ref r) ∧ v = BitVec.ofNat 8 (2 * (operandByte r s).toNat) ∨
     i.form = some (.LSR, .ref r) ∧ v = BitVec.ofNat 8 ((operandByte r s).toNat / 2) ∨
     i.form = some (.ROL, .ref r) ∧ v = BitVec.ofNat 8 (2 * (operandByte r s).toNat + s.flags.C.toNat) ∨
     i.form = some (.ROR, .ref r) ∧ v = BitVec.ofNat 8 ((operandByte r s).toNat / 2 + 128 * s.flags.C.toNat)) →
    let byte (a : Address) : Byte := if a = effectiveAddress r s then v else s.read a
    t.pc = nextPc (.ref r) s ∧ t.fetch = decodeOp (byte t.pc) (byte (t.pc + 1)) (byte (t.pc + 2))) ∧
  (∀ (i : Instr) (s t : State) (v : Byte), exec i s = .next t →
    (i = .pha ∧ v = s.A ∨ i = .php ∧ v = packFlags s.flags) →
    let byte (a : Address) : Byte := if a = stackAddress s.sp then v else s.read a
    t.pc = s.pc + 1 ∧ t.fetch = decodeOp (byte t.pc) (byte (t.pc + 1)) (byte (t.pc + 2))) ∧
  ∀ (lo hi : Byte) (s t : State), exec (.jsr lo hi) s = .next t →
    let byte (a : Address) : Byte :=
      if a = stackAddress s.sp then lowByte (s.pc + 3)
      else if a = stackAddress (s.sp - 1) then highByte (s.pc + 3) else s.read a
    t.pc = int16 lo hi ∧ t.fetch = decodeOp (byte t.pc) (byte (t.pc + 1)) (byte (t.pc + 2))
end

