-- ==== Sys2Proof/Laws/State.lean ====
section
/-!
SUPPORT. The small lemmas of the state's updates: one per field per update, so that no later proof unfolds a record
update.
-/

namespace Sys2Proof.Machine

@[simp] theorem State.store_A (s : State) (a : Address) (v : Byte) : (s.store a v).A = s.A := rfl
@[simp] theorem State.store_X (s : State) (a : Address) (v : Byte) : (s.store a v).X = s.X := rfl
@[simp] theorem State.store_Y (s : State) (a : Address) (v : Byte) : (s.store a v).Y = s.Y := rfl
@[simp] theorem State.store_flags (s : State) (a : Address) (v : Byte) : (s.store a v).flags = s.flags := rfl
@[simp] theorem State.store_sp (s : State) (a : Address) (v : Byte) : (s.store a v).sp = s.sp := rfl
@[simp] theorem State.store_pc (s : State) (a : Address) (v : Byte) : (s.store a v).pc = s.pc := rfl
@[simp] theorem State.store_mem (s : State) (a : Address) (v : Byte) : (s.store a v).mem = Memory.write s.mem a v := rfl
@[simp] theorem State.store_run (s : State) (a : Address) (v : Byte) : (s.store a v).run = s.run := rfl

@[simp] theorem State.writeA_A (s : State) (m : Byte) : (s.writeA m).A = m := rfl
@[simp] theorem State.writeA_X (s : State) (m : Byte) : (s.writeA m).X = s.X := rfl
@[simp] theorem State.writeA_Y (s : State) (m : Byte) : (s.writeA m).Y = s.Y := rfl
@[simp] theorem State.writeA_flags (s : State) (m : Byte) : (s.writeA m).flags = s.flags.result m := rfl
@[simp] theorem State.writeA_sp (s : State) (m : Byte) : (s.writeA m).sp = s.sp := rfl
@[simp] theorem State.writeA_pc (s : State) (m : Byte) : (s.writeA m).pc = s.pc := rfl
@[simp] theorem State.writeA_mem (s : State) (m : Byte) : (s.writeA m).mem = s.mem := rfl
@[simp] theorem State.writeA_run (s : State) (m : Byte) : (s.writeA m).run = s.run := rfl

@[simp] theorem State.writeX_A (s : State) (m : Byte) : (s.writeX m).A = s.A := rfl
@[simp] theorem State.writeX_X (s : State) (m : Byte) : (s.writeX m).X = m := rfl
@[simp] theorem State.writeX_Y (s : State) (m : Byte) : (s.writeX m).Y = s.Y := rfl
@[simp] theorem State.writeX_flags (s : State) (m : Byte) : (s.writeX m).flags = s.flags.result m := rfl
@[simp] theorem State.writeX_sp (s : State) (m : Byte) : (s.writeX m).sp = s.sp := rfl
@[simp] theorem State.writeX_pc (s : State) (m : Byte) : (s.writeX m).pc = s.pc := rfl
@[simp] theorem State.writeX_mem (s : State) (m : Byte) : (s.writeX m).mem = s.mem := rfl
@[simp] theorem State.writeX_run (s : State) (m : Byte) : (s.writeX m).run = s.run := rfl

@[simp] theorem State.writeY_A (s : State) (m : Byte) : (s.writeY m).A = s.A := rfl
@[simp] theorem State.writeY_X (s : State) (m : Byte) : (s.writeY m).X = s.X := rfl
@[simp] theorem State.writeY_Y (s : State) (m : Byte) : (s.writeY m).Y = m := rfl
@[simp] theorem State.writeY_flags (s : State) (m : Byte) : (s.writeY m).flags = s.flags.result m := rfl
@[simp] theorem State.writeY_sp (s : State) (m : Byte) : (s.writeY m).sp = s.sp := rfl
@[simp] theorem State.writeY_pc (s : State) (m : Byte) : (s.writeY m).pc = s.pc := rfl
@[simp] theorem State.writeY_mem (s : State) (m : Byte) : (s.writeY m).mem = s.mem := rfl
@[simp] theorem State.writeY_run (s : State) (m : Byte) : (s.writeY m).run = s.run := rfl

@[simp] theorem State.storeResult_A (s : State) (a : Address) (m : Byte) : (s.storeResult a m).A = s.A := rfl
@[simp] theorem State.storeResult_X (s : State) (a : Address) (m : Byte) : (s.storeResult a m).X = s.X := rfl
@[simp] theorem State.storeResult_Y (s : State) (a : Address) (m : Byte) : (s.storeResult a m).Y = s.Y := rfl
@[simp] theorem State.storeResult_flags (s : State) (a : Address) (m : Byte) : (s.storeResult a m).flags = s.flags.result m := rfl
@[simp] theorem State.storeResult_sp (s : State) (a : Address) (m : Byte) : (s.storeResult a m).sp = s.sp := rfl
@[simp] theorem State.storeResult_pc (s : State) (a : Address) (m : Byte) : (s.storeResult a m).pc = s.pc := rfl
@[simp] theorem State.storeResult_mem (s : State) (a : Address) (m : Byte) : (s.storeResult a m).mem = Memory.write s.mem a m := rfl
@[simp] theorem State.storeResult_run (s : State) (a : Address) (m : Byte) : (s.storeResult a m).run = s.run := rfl

@[simp] theorem State.setC_A (s : State) (f : Bool) : (s.setC f).A = s.A := rfl
@[simp] theorem State.setC_X (s : State) (f : Bool) : (s.setC f).X = s.X := rfl
@[simp] theorem State.setC_Y (s : State) (f : Bool) : (s.setC f).Y = s.Y := rfl
@[simp] theorem State.setC_flags (s : State) (f : Bool) : (s.setC f).flags = { s.flags with C := f } := rfl
@[simp] theorem State.setC_sp (s : State) (f : Bool) : (s.setC f).sp = s.sp := rfl
@[simp] theorem State.setC_pc (s : State) (f : Bool) : (s.setC f).pc = s.pc := rfl
@[simp] theorem State.setC_mem (s : State) (f : Bool) : (s.setC f).mem = s.mem := rfl
@[simp] theorem State.setC_run (s : State) (f : Bool) : (s.setC f).run = s.run := rfl

@[simp] theorem State.setV_A (s : State) (f : Bool) : (s.setV f).A = s.A := rfl
@[simp] theorem State.setV_X (s : State) (f : Bool) : (s.setV f).X = s.X := rfl
@[simp] theorem State.setV_Y (s : State) (f : Bool) : (s.setV f).Y = s.Y := rfl
@[simp] theorem State.setV_flags (s : State) (f : Bool) : (s.setV f).flags = { s.flags with V := f } := rfl
@[simp] theorem State.setV_sp (s : State) (f : Bool) : (s.setV f).sp = s.sp := rfl
@[simp] theorem State.setV_pc (s : State) (f : Bool) : (s.setV f).pc = s.pc := rfl
@[simp] theorem State.setV_mem (s : State) (f : Bool) : (s.setV f).mem = s.mem := rfl
@[simp] theorem State.setV_run (s : State) (f : Bool) : (s.setV f).run = s.run := rfl

@[simp] theorem State.setI_A (s : State) (f : Bool) : (s.setI f).A = s.A := rfl
@[simp] theorem State.setI_X (s : State) (f : Bool) : (s.setI f).X = s.X := rfl
@[simp] theorem State.setI_Y (s : State) (f : Bool) : (s.setI f).Y = s.Y := rfl
@[simp] theorem State.setI_flags (s : State) (f : Bool) : (s.setI f).flags = { s.flags with I := f } := rfl
@[simp] theorem State.setI_sp (s : State) (f : Bool) : (s.setI f).sp = s.sp := rfl
@[simp] theorem State.setI_pc (s : State) (f : Bool) : (s.setI f).pc = s.pc := rfl
@[simp] theorem State.setI_mem (s : State) (f : Bool) : (s.setI f).mem = s.mem := rfl
@[simp] theorem State.setI_run (s : State) (f : Bool) : (s.setI f).run = s.run := rfl

@[simp] theorem State.setD_A (s : State) (f : Bool) : (s.setD f).A = s.A := rfl
@[simp] theorem State.setD_X (s : State) (f : Bool) : (s.setD f).X = s.X := rfl
@[simp] theorem State.setD_Y (s : State) (f : Bool) : (s.setD f).Y = s.Y := rfl
@[simp] theorem State.setD_flags (s : State) (f : Bool) : (s.setD f).flags = { s.flags with D := f } := rfl
@[simp] theorem State.setD_sp (s : State) (f : Bool) : (s.setD f).sp = s.sp := rfl
@[simp] theorem State.setD_pc (s : State) (f : Bool) : (s.setD f).pc = s.pc := rfl
@[simp] theorem State.setD_mem (s : State) (f : Bool) : (s.setD f).mem = s.mem := rfl
@[simp] theorem State.setD_run (s : State) (f : Bool) : (s.setD f).run = s.run := rfl

@[simp] theorem State.push_A (s : State) (v : Byte) : (s.push v).A = s.A := rfl
@[simp] theorem State.push_X (s : State) (v : Byte) : (s.push v).X = s.X := rfl
@[simp] theorem State.push_Y (s : State) (v : Byte) : (s.push v).Y = s.Y := rfl
@[simp] theorem State.push_flags (s : State) (v : Byte) : (s.push v).flags = s.flags := rfl
@[simp] theorem State.push_sp (s : State) (v : Byte) : (s.push v).sp = s.sp - 1 := rfl
@[simp] theorem State.push_pc (s : State) (v : Byte) : (s.push v).pc = s.pc := rfl
@[simp] theorem State.push_mem (s : State) (v : Byte) : (s.push v).mem = Memory.write s.mem (stackAddress s.sp) v := rfl
@[simp] theorem State.push_run (s : State) (v : Byte) : (s.push v).run = s.run := rfl

@[simp] theorem State.advance_A (s : State) (n : Nat) : (s.advance n).A = s.A := rfl
@[simp] theorem State.advance_X (s : State) (n : Nat) : (s.advance n).X = s.X := rfl
@[simp] theorem State.advance_Y (s : State) (n : Nat) : (s.advance n).Y = s.Y := rfl
@[simp] theorem State.advance_flags (s : State) (n : Nat) : (s.advance n).flags = s.flags := rfl
@[simp] theorem State.advance_sp (s : State) (n : Nat) : (s.advance n).sp = s.sp := rfl
@[simp] theorem State.advance_pc (s : State) (n : Nat) : (s.advance n).pc = s.pc + BitVec.ofNat 16 n := rfl
@[simp] theorem State.advance_mem (s : State) (n : Nat) : (s.advance n).mem = s.mem := rfl
@[simp] theorem State.advance_run (s : State) (n : Nat) : (s.advance n).run = s.run := rfl

@[simp] theorem State.past_A (s : State) (o : Operand) : (s.past o).A = s.A := rfl
@[simp] theorem State.past_X (s : State) (o : Operand) : (s.past o).X = s.X := rfl
@[simp] theorem State.past_Y (s : State) (o : Operand) : (s.past o).Y = s.Y := rfl
@[simp] theorem State.past_flags (s : State) (o : Operand) : (s.past o).flags = s.flags := rfl
@[simp] theorem State.past_sp (s : State) (o : Operand) : (s.past o).sp = s.sp := rfl
@[simp] theorem State.past_pc (s : State) (o : Operand) : (s.past o).pc = s.pc + BitVec.ofNat 16 (operandLength o) := rfl
@[simp] theorem State.past_mem (s : State) (o : Operand) : (s.past o).mem = s.mem := rfl
@[simp] theorem State.past_run (s : State) (o : Operand) : (s.past o).run = s.run := rfl

@[simp] theorem State.jump_A (s : State) (a : Address) : (s.jump a).A = s.A := rfl
@[simp] theorem State.jump_X (s : State) (a : Address) : (s.jump a).X = s.X := rfl
@[simp] theorem State.jump_Y (s : State) (a : Address) : (s.jump a).Y = s.Y := rfl
@[simp] theorem State.jump_flags (s : State) (a : Address) : (s.jump a).flags = s.flags := rfl
@[simp] theorem State.jump_sp (s : State) (a : Address) : (s.jump a).sp = s.sp := rfl
@[simp] theorem State.jump_pc (s : State) (a : Address) : (s.jump a).pc = a := rfl
@[simp] theorem State.jump_mem (s : State) (a : Address) : (s.jump a).mem = s.mem := rfl
@[simp] theorem State.jump_run (s : State) (a : Address) : (s.jump a).run = s.run := rfl

@[simp] theorem State.raise_A (s : State) (r : HaltReason) : (s.raise r).A = s.A := rfl
@[simp] theorem State.raise_X (s : State) (r : HaltReason) : (s.raise r).X = s.X := rfl
@[simp] theorem State.raise_Y (s : State) (r : HaltReason) : (s.raise r).Y = s.Y := rfl
@[simp] theorem State.raise_flags (s : State) (r : HaltReason) : (s.raise r).flags = s.flags := rfl
@[simp] theorem State.raise_sp (s : State) (r : HaltReason) : (s.raise r).sp = s.sp := rfl
@[simp] theorem State.raise_pc (s : State) (r : HaltReason) : (s.raise r).pc = s.pc := rfl
@[simp] theorem State.raise_mem (s : State) (r : HaltReason) : (s.raise r).mem = s.mem := rfl
@[simp] theorem State.raise_run (s : State) (r : HaltReason) : (s.raise r).run = .halted r := rfl

@[simp] theorem State.pull_fst (s : State) : s.pull.1 = s.read (stackAddress (s.sp + 1)) := rfl
@[simp] theorem State.pull_snd (s : State) : s.pull.2 = { s with sp := s.sp + 1 } := rfl

@[simp] theorem Flags.result_Z (f : Flags) (m : Byte) : (f.result m).Z = (m == 0) := rfl
@[simp] theorem Flags.result_N (f : Flags) (m : Byte) : (f.result m).N = m.getLsbD 7 := rfl
@[simp] theorem Flags.result_C (f : Flags) (m : Byte) : (f.result m).C = f.C := rfl
@[simp] theorem Flags.result_V (f : Flags) (m : Byte) : (f.result m).V = f.V := rfl
@[simp] theorem Flags.result_B (f : Flags) (m : Byte) : (f.result m).B = f.B := rfl
@[simp] theorem Flags.result_D (f : Flags) (m : Byte) : (f.result m).D = f.D := rfl
@[simp] theorem Flags.result_I (f : Flags) (m : Byte) : (f.result m).I = f.I := rfl

@[simp] theorem Flags.compare_Z (f : Flags) (reg m : Byte) : (f.compare reg m).Z = (narrow (int reg - int m) == 0) := rfl
@[simp] theorem Flags.compare_N (f : Flags) (reg m : Byte) : (f.compare reg m).N = (narrow (int reg - int m)).getLsbD 7 := rfl
@[simp] theorem Flags.compare_C (f : Flags) (reg m : Byte) : (f.compare reg m).C = decide (int reg ≥ int m) := rfl
@[simp] theorem Flags.compare_V (f : Flags) (reg m : Byte) : (f.compare reg m).V = f.V := rfl
@[simp] theorem Flags.compare_B (f : Flags) (reg m : Byte) : (f.compare reg m).B = f.B := rfl
@[simp] theorem Flags.compare_D (f : Flags) (reg m : Byte) : (f.compare reg m).D = f.D := rfl
@[simp] theorem Flags.compare_I (f : Flags) (reg m : Byte) : (f.compare reg m).I = f.I := rfl

end Sys2Proof.Machine
end

