-- ==== Sys2Proof/Laws/Memory.lean ====
section
/-!
SUPPORT. The laws of memory: a read returns the latest write, and every operation keeps the canonical form.
-/

namespace Sys2Proof.Machine

@[simp] theorem Memory.read_nil (a : Address) : Memory.read [] a = 0 := rfl

theorem Memory.read_cons (c : Host.Cell) (m : Memory) (a : Address) :
    Memory.read (c :: m) a = if c.1 = a.toNat then c.2 else Memory.read m a := by
  by_cases h : c.1 = a.toNat <;> simp [Memory.read, h]

theorem Memory.read_insert (m : Memory) (a : Nat) (v : Byte) (b : Address) (fresh : ∀ c ∈ m, c.1 ≠ a) :
    Memory.read (Memory.insert a v m) b = if a = b.toNat then v else Memory.read m b := by
  induction m with
  | nil => simp [Memory.insert, Memory.read_cons]
  | cons c m ih =>
    have hc : c.1 ≠ a := fresh c (by simp)
    have ih := ih fun d hd => fresh d (by simp [hd])
    by_cases hlt : a < c.1
    · simp only [Memory.insert, hlt, if_true, Memory.read_cons]
    · simp only [Memory.insert, hlt, if_false, Memory.read_cons, ih]
      by_cases hb : c.1 = b.toNat
      · simp [hb, show a ≠ b.toNat from fun h => hc (hb.trans h.symm)]
      · simp [hb]

theorem Memory.read_filter (m : Memory) (a b : Address) :
    Memory.read (m.filter fun c => c.1 != a.toNat) b = if b = a then unlistedByte else Memory.read m b := by
  induction m with
  | nil => simp [unlistedByte]
  | cons c m ih =>
    by_cases ha : c.1 = a.toNat
    · by_cases h : b = a
      · simpa [ha, h] using ih
      · have : ¬ a.toNat = b.toNat := fun e => h (BitVec.eq_of_toNat_eq e.symm)
        simpa [ha, h, Memory.read_cons, this] using ih
    · by_cases hb : c.1 = b.toNat
      · have : b ≠ a := fun e => ha (e ▸ hb)
        have hne : ¬ b.toNat = a.toNat := fun e => this (BitVec.eq_of_toNat_eq e)
        simp [Memory.read_cons, hb, this, hne]
      · simpa [ha, Memory.read_cons, hb] using ih

/-- Read after write (R41, R42, R61), of any memory. -/
@[simp] theorem Memory.read_write (m : Memory) (a b : Address) (v : Byte) :
    Memory.read (Memory.write m a v) b = if b = a then v else Memory.read m b := by
  unfold Memory.write
  by_cases hv : v = unlistedByte
  · simp [hv, Memory.read_filter]
  · have fresh : ∀ c ∈ m.filter (fun c => c.1 != a.toNat), c.1 ≠ a.toNat := by simp
    simp only [hv, if_false, Memory.read_insert _ _ _ _ fresh, Memory.read_filter]
    by_cases h : b = a
    · simp [h]
    · simp [h, show ¬ a.toNat = b.toNat from fun e => h (BitVec.eq_of_toNat_eq e.symm)]

theorem Memory.mem_insert {m : Memory} {a : Nat} {v : Byte} {c : Host.Cell} :
    c ∈ Memory.insert a v m ↔ c = (a, v) ∨ c ∈ m := by
  induction m with
  | nil => simp [Memory.insert]
  | cons d m ih =>
    by_cases h : a < d.1
    · simp [Memory.insert, h]
    · simp only [Memory.insert, h, if_false, List.mem_cons, ih]
      tauto

theorem Memory.insert_sorted {m : Memory} {a : Nat} {v : Byte} (sorted : m.Pairwise fun c d => c.1 < d.1)
    (fresh : ∀ c ∈ m, c.1 ≠ a) : (Memory.insert a v m).Pairwise fun c d => c.1 < d.1 := by
  induction m with
  | nil => simp [Memory.insert]
  | cons c m ih =>
    have ⟨hhead, htail⟩ := List.pairwise_cons.1 sorted
    by_cases h : a < c.1
    · simp only [Memory.insert, h, if_true, List.pairwise_cons]
      refine ⟨fun d hd => ?_, hhead, htail⟩
      rcases List.mem_cons.1 hd with rfl | hd
      · exact h
      · exact h.trans (hhead d hd)
    · simp only [Memory.insert, h, if_false, List.pairwise_cons]
      refine ⟨fun d hd => ?_, ih htail fun d hd => fresh d (by simp [hd])⟩
      rcases Memory.mem_insert.1 hd with rfl | hd
      · have := fresh c (by simp)
        show c.1 < a
        omega
      · exact hhead d hd

/-- A write keeps the canonical form. -/
theorem Memory.write_wf {m : Memory} (a : Address) (v : Byte) (h : Memory.wf m) : Memory.wf (Memory.write m a v) := by
  have sorted : (m.filter fun c => c.1 != a.toNat).Pairwise fun c d => c.1 < d.1 := h.1.filter _
  have entries : ∀ c ∈ m.filter (fun c => c.1 != a.toNat), c.1 < 65536 ∧ c.2 ≠ unlistedByte :=
    fun c hc => h.2 c (List.mem_of_mem_filter hc)
  by_cases hv : v = unlistedByte
  · exact (by simpa [Memory.write, hv] using ⟨sorted, entries⟩)
  · simp only [Memory.write, hv, if_false]
    refine ⟨Memory.insert_sorted sorted (by simp), fun c hc => ?_⟩
    rcases Memory.mem_insert.1 hc with rfl | hc
    · exact ⟨a.isLt, hv⟩
    · exact entries c hc

theorem State.read_store (s : State) (a b : Address) (v : Byte) :
    (s.store a v).read b = if b = a then v else s.read b :=
  Memory.read_write s.mem a b v

/-- What a push writes: the byte at the stack top before it, no other. -/
theorem State.read_push (s : State) (v : Byte) (b : Address) :
    (s.push v).read b = if b = stackAddress s.sp then v else s.read b :=
  Memory.read_write s.mem _ b v

theorem State.read_storeResult (s : State) (a b : Address) (m : Byte) :
    (s.storeResult a m).read b = if b = a then m else s.read b :=
  Memory.read_write s.mem a b m

/-- A read depends on the memory alone. -/
theorem State.read_congr {s t : State} (h : s.mem = t.mem) (a : Address) : s.read a = t.read a := by
  simp [State.read, h]

/-! Every operation of Sys2Proof/Machine/Ops.lean, Operands.lean and HostInterface.lean that writes memory keeps the
canonical form. -/

theorem State.store_wf {s : State} (a : Address) (v : Byte) (h : Memory.wf s.mem) : Memory.wf (s.store a v).mem :=
  Memory.write_wf a v h

theorem State.storeResult_wf {s : State} (a : Address) (m : Byte) (h : Memory.wf s.mem) :
    Memory.wf (s.storeResult a m).mem :=
  Memory.write_wf a m h

theorem State.push_wf {s : State} (v : Byte) (h : Memory.wf s.mem) : Memory.wf (s.push v).mem :=
  Memory.write_wf _ v h

theorem State.jsr_wf {s : State} (a : Address) (h : Memory.wf s.mem) : Memory.wf (s.jsr a).mem :=
  State.push_wf _ (State.push_wf _ h)

theorem State.branch_mem (s : State) (cond : Bool) (a : Address) : (s.branch cond a).mem = s.mem := by
  cases cond <;> rfl

theorem putOperand_wf {s : State} (o : Operand) (v : Byte) (h : Memory.wf s.mem) : Memory.wf (putOperand o v s).mem := by
  cases o with
  | imp => exact h
  | ref r => exact Memory.write_wf _ v h

theorem State.storeImage_wf {s : State} (a : Address) (image : List Byte) (h : Memory.wf s.mem) :
    Memory.wf (s.storeImage a image).mem := by
  induction image generalizing s a with
  | nil => exact h
  | cons b image ih => exact ih _ (State.store_wf a b h)

theorem State.placeWord_wf {s : State} (nbits w : Nat) (h : Memory.wf s.mem) : Memory.wf (s.placeWord nbits w).mem :=
  State.store_wf _ _ (State.store_wf _ _ (State.store_wf _ _ h))

theorem State.withFetchWord_wf {s : State} (nbits w : Nat) (h : Memory.wf s.mem) :
    Memory.wf (s.withFetchWord nbits w).mem :=
  State.placeWord_wf nbits w h

theorem State.reset_wf : Memory.wf State.reset.mem := by decide

end Sys2Proof.Machine
end

