-- ==== Sys2Proof/Laws/Bits.lean ====
section
/-!
SUPPORT. The bit-field, byte-order and flag helpers as arithmetic: what each computes, for use with `omega`.
-/

namespace Sys2Proof.Machine

/-! ## Byte order and extension -/

theorem zext16_toNat (b : Byte) : (zext16 b).toNat = b.toNat := by
  have := b.isLt
  simp [zext16]
  omega

theorem int16_toNat (lo hi : Byte) : (int16 lo hi).toNat = lo.toNat + hi.toNat * 256 := by
  have := lo.isLt
  have e : (int16 lo hi).toNat = (hi.toNat <<< 8) ||| lo.toNat := by rw [int16, BitVec.toNat_append]
  rw [e, ← Nat.shiftLeft_add_eq_or_of_lt (by omega), Nat.shiftLeft_eq]
  omega

theorem lowByte_toNat (a : Address) : (lowByte a).toNat = a.toNat % 256 := by
  simp [lowByte]

theorem highByte_toNat (a : Address) : (highByte a).toNat = a.toNat / 256 := by
  have := a.isLt
  simp [highByte, Nat.shiftRight_eq_div_pow]
  omega

theorem int16_bytes (a : Address) : int16 (lowByte a) (highByte a) = a := by
  apply BitVec.eq_of_toNat_eq
  rw [int16_toNat, lowByte_toNat, highByte_toNat]
  omega

theorem sext16_toInt (o : Byte) : (sext16 o).toInt = o.toInt := by
  simp [sext16, BitVec.toInt_signExtend_of_le]

/-! ## Narrowing (R10, R21) -/

theorem narrow_inc (b : Byte) : narrow (int b + 1) = b + 1 := by
  apply BitVec.eq_of_toNat_eq
  have := b.isLt
  rw [narrow, BitVec.toNat_ofInt, BitVec.toNat_add, int, show (1 : Byte).toNat = 1 from rfl]
  omega

theorem narrow_dec (b : Byte) : narrow (int b - 1) = b - 1 := by
  apply BitVec.eq_of_toNat_eq
  have := b.isLt
  rw [narrow, BitVec.toNat_ofInt, BitVec.toNat_sub, int, show (1 : Byte).toNat = 1 from rfl]
  omega

theorem narrow_sub (a b : Byte) : narrow (int a - int b) = a - b := by
  apply BitVec.eq_of_toNat_eq
  have := a.isLt
  have := b.isLt
  rw [narrow, BitVec.toNat_ofInt, BitVec.toNat_sub, int, int]
  omega

/-! ## Flags -/

theorem bit7_eq : ∀ b : Byte, b.getLsbD 7 = decide (128 ≤ b.toNat) := by decide

theorem and80_eq : ∀ b : Byte, (b &&& 0x80 != 0) = b.getLsbD 7 := by decide

/-- `V_adc` (R136) in terms of the three sign bits. -/
theorem vAdc_eq (a m r : Byte) :
    vAdc a m r = ((a.getLsbD 7 ^^ r.getLsbD 7) && (m.getLsbD 7 ^^ r.getLsbD 7)) := by
  rw [vAdc, and80_eq]
  simp

/-- `V_sbc` (R136) in terms of the three sign bits. -/
theorem vSbc_eq (a m r : Byte) :
    vSbc a m r = ((a.getLsbD 7 ^^ m.getLsbD 7) && (a.getLsbD 7 ^^ r.getLsbD 7)) := by
  rw [vSbc, and80_eq]
  simp

theorem compare_eq (f : Flags) (reg m : Byte) :
    f.compare reg m = { f.result (reg - m) with C := decide (m.toNat ≤ reg.toNat) } := by
  rw [Flags.compare, narrow_sub]
  congr 1
  rw [decide_eq_decide, int, int]
  omega

theorem unpack_pack (f : Flags) : unpackFlags (packFlags f) = f := by
  obtain ⟨n, v, b, d, i, z, c⟩ := f
  revert n v b d i z c
  decide

/-! ## The stack page (R47) -/

theorem stackAddress_toNat (sp : Byte) : (stackAddress sp).toNat = 256 + sp.toNat := by
  have := sp.isLt
  rw [stackAddress, BitVec.toNat_add, zext16_toNat, show (0x0100 : Address).toNat = 256 from rfl]
  omega

theorem stackAddress_inj {a b : Byte} (h : stackAddress a = stackAddress b) : a = b := by
  apply BitVec.eq_of_toNat_eq
  have := congrArg BitVec.toNat h
  rw [stackAddress_toNat, stackAddress_toNat] at this
  omega

end Sys2Proof.Machine
end

