-- ==== Sys2Proof/Laws/Decode.lean ====
section
/-!
SUPPORT. The laws of the decoder and the encoder.
-/

namespace Sys2Proof

/-- Each row of the decoder builds well-formed instructions of its own opcode byte. -/
theorem decodeRows_build (b1 b2 : Byte) : ∀ row ∈ decodeRows,
    (row.build b1 b2).opcode = row.opcode ∧ (row.build b1 b2).wellFormed = true ∧
      (row.build b1 b2).operandBytes = [b1, b2].take ((row.build b1 b2).length - 1) := by
  simp only [decodeRows, List.forall_mem_append, and_assoc]
  and_intros
  all_goals
    simp only [decodeRows0, decodeRows1, decodeRows2, decodeRows3, decodeRows4, decodeRows5, decodeRows6, decodeRows7,
      decodeRows8, decodeRows9, decodeRowsA, decodeRowsB, decodeRowsC, decodeRowsD, decodeRowsE, decodeRowsF,
      List.forall_mem_cons]
    and_intros
    all_goals first | exact rfl | simp

/-- A decoded instruction is well-formed, has the opcode byte read, and takes its operand bytes from the bytes after
it. -/
theorem decodeOp_some {op b1 b2 : Byte} {i : Instr} (h : decodeOp op b1 b2 = some i) :
    i.opcode = op ∧ i.wellFormed = true ∧ i.operandBytes = [b1, b2].take (i.length - 1) := by
  obtain ⟨row, found, rfl⟩ := Option.map_eq_some_iff.1 h
  have ⟨h1, h2, h3⟩ := decodeRows_build b1 b2 row (List.mem_of_find?_eq_some found)
  have := List.find?_some found
  exact ⟨h1.trans (by simpa using this), h2, h3⟩

theorem operandBytes_of_form {i : Instr} {m : Mnemonic} {o : Operand} (h : i.form = some (m, o)) :
    i.operandBytes = o.bytes := by
  simp [Instr.operandBytes, h]

/-- At most two operand bytes (R70). -/
theorem bytes_length_le (o : Operand) : o.bytes.length ≤ 2 := by
  cases o with
  | imp => exact Nat.zero_le 2
  | ref r => cases r <;> simp [Operand.bytes, Ref.bytes]

/-- A row of the decoder stands in the default table, with the mode its operand has. -/
theorem decodeRows_entry (b1 b2 : Byte) : ∀ row ∈ decodeRows, ∃ m mode,
    defaultConfig.entry row.opcode = some (m, .known mode) ∧ (row.build b1 b2).form = some (m, mode.operand b1 b2) := by
  simp only [decodeRows, List.forall_mem_append, and_assoc]
  and_intros
  all_goals
    simp only [decodeRows0, decodeRows1, decodeRows2, decodeRows3, decodeRows4, decodeRows5, decodeRows6, decodeRows7,
      decodeRows8, decodeRows9, decodeRowsA, decodeRowsB, decodeRowsC, decodeRowsD, decodeRowsE, decodeRowsF,
      List.forall_mem_cons]
    and_intros
    all_goals first | exact ⟨_, _, rfl, rfl⟩ | simp

/-- What the decoder reads is what the default table has at the opcode byte (R102). -/
theorem decodeOp_entry {op b1 b2 : Byte} {i : Instr} (h : decodeOp op b1 b2 = some i) : ∃ m mode,
    defaultConfig.entry op = some (m, .known mode) ∧ i.form = some (m, mode.operand b1 b2) := by
  obtain ⟨row, found, rfl⟩ := Option.map_eq_some_iff.1 h
  have entry := decodeRows_entry b1 b2 row (List.mem_of_find?_eq_some found)
  have same : row.opcode = op := by simpa using List.find?_some found
  rwa [same] at entry

end Sys2Proof
end

