-- ==== Sys2Proof/Laws/Exec.lean ====
section
/-!
SUPPORT. What a meaning and a step can do, said once: the dispatch in terms of the parametric engine, and the engine in
terms of its handlers.
-/

namespace Sys2Proof.Machine

/-- An implemented mnemonic with its operand, run by its handler; none where R105 has no address for it, or no handler
exists. -/
def handled (c : Config) (m : Mnemonic) (o : Operand) (s : State) : Option State :=
  match catalogue c m, o with
  | .needsAddress op, .ref r => some (op r s)
  | .needsAddress _, .imp => none
  | .either op, o => some (op o s)
  | .ignoresAddress op, o => some (op o s)
  | .absent, _ => none

/-- The 151 arms of `exec` are one call of the engine's `perform`, at the table entry the instruction stands for. -/
theorem exec_of_form {i : Instr} {m : Mnemonic} {o : Operand} (h : i.form = some (m, o)) (s : State) :
    exec i s = perform defaultConfig m o s := by
  cases i <;> first | (cases h; rfl) | cases h

/-- An implemented mnemonic whose handler runs completes with the handler's state. -/
theorem perform_of_handled {c : Config} {m : Mnemonic} {o : Operand} {s t : State} (hm : m ∉ c.unimplemented)
    (h : handled c m o s = some t) : perform c m o s = .next t := by
  unfold perform
  unfold handled at h
  simp only [List.contains_iff_mem, hm, if_false]
  generalize catalogue c m = k at h
  cases k <;> cases o <;> simp_all

theorem exec_of_handled {i : Instr} {m : Mnemonic} {o : Operand} (hf : i.form = some (m, o)) {s t : State}
    (h : handled defaultConfig m o s = some t) (hm : m ≠ .RTI) : exec i s = .next t := by
  rw [exec_of_form hf]
  exact perform_of_handled (by simp [defaultConfig, hm]) h

/-- Everything `perform` can do when it answers a next state. -/
theorem perform_cases {c : Config} {m : Mnemonic} {o : Operand} {s t : State} (h : perform c m o s = .next t) :
    (m ∈ c.unimplemented ∧ t = s.raise (.unimplementedMnemonic m s.pc)) ∨
    (m ∉ c.unimplemented ∧ handled c m o s = some t) ∨
    (m ∉ c.unimplemented ∧ o = .imp ∧ (∃ op, catalogue c m = .needsAddress op) ∧
      t = s.raise (.invalidAddressingMode (.known .imp) s.pc)) := by
  unfold perform at h
  split at h
  · rename_i hc
    cases h
    exact .inl ⟨by simpa using hc, rfl⟩
  · rename_i hc
    have hc : m ∉ c.unimplemented := by simpa using hc
    unfold handled
    split at h <;> cases h <;> simp_all

/-- Everything the engine's step can do when it answers a next state. -/
theorem stepWith_cases {c : Config} {s t : State} (h : stepWith c s = .next t) :
    c.accepted = true ∧ s.run = .running ∧
    ((c.entry (s.read s.pc) = none ∧ t = s.raise (.unknownOpcode (s.read s.pc) s.pc)) ∨
     (∃ m code, c.entry (s.read s.pc) = some (m, code) ∧ (∀ mode, code ≠ .known mode) ∧
       t = s.raise (.invalidAddressingMode code s.pc)) ∨
     (∃ m mode, c.entry (s.read s.pc) = some (m, .known mode) ∧
       perform c m (mode.operand (s.read (s.pc + 1)) (s.read (s.pc + 2))) s = .next t)) := by
  unfold stepWith at h
  split at h
  · cases h
  · rename_i hc
    split at h
    · cases h
    · rename_i hr
      refine ⟨by simpa using hc, hr, ?_⟩
      split at h
      · rename_i he
        cases h
        exact .inl ⟨he, rfl⟩
      · rename_i m mode he
        exact .inr (.inr ⟨m, mode, he, h⟩)
      · rename_i m code hne he
        cases h
        exact .inr (.inl ⟨m, code, he, fun mode hm => hne mode hm, rfl⟩)

/-- A handler's class fixes the answer: `perform` never faults. -/
theorem perform_ne_fault (c : Config) (m : Mnemonic) (o : Operand) (s : State) (f : Fault) :
    perform c m o s ≠ .fault f := by
  unfold perform
  split
  · simp
  · split <;> simp

/-- The engine's step faults on a HALTED state and on no other. -/
theorem stepWith_fault {c : Config} {s : State} {f : Fault} (h : stepWith c s = .fault f) :
    ∃ reason, s.run = .halted reason ∧ f = .engineHalted reason := by
  unfold stepWith at h
  split at h
  · cases h
  · split at h
    · rename_i reason hr
      cases h
      exact ⟨reason, hr, rfl⟩
    · split at h
      · cases h
      · exact (perform_ne_fault _ _ _ _ _ h).elim
      · cases h

/-- No instruction that stands for an address-needing mnemonic has the Implicit mode (R105, R87). -/
theorem form_imp_not_needsAddress {i : Instr} {m : Mnemonic} (h : i.form = some (m, .imp)) (c : Config) :
    ¬ ∃ op, catalogue c m = .needsAddress op := by
  rintro ⟨op, hx⟩
  cases i <;> simp [Instr.form] at h <;> subst h <;> simp [catalogue] at hx

/-- Everything `exec` can do with an instruction that has a table entry: RTI halts, every other one runs its handler. -/
theorem exec_cases {i : Instr} {m : Mnemonic} {o : Operand} {s t : State} (hf : i.form = some (m, o))
    (h : exec i s = .next t) :
    (m = .RTI ∧ t = s.raise (.unimplementedMnemonic .RTI s.pc)) ∨ handled defaultConfig m o s = some t := by
  rw [exec_of_form hf] at h
  rcases perform_cases h with ⟨hu, rfl⟩ | ⟨_, hh⟩ | ⟨_, rfl, hx, rfl⟩
  · have : m = .RTI := by simpa [defaultConfig] using hu
    subst this
    exact .inl ⟨rfl, rfl⟩
  · exact .inr hh
  · exact (form_imp_not_needsAddress hf _ hx).elim

end Sys2Proof.Machine
end

