-- ==== Sys2Proof/Laws/PerInstr.lean ====
section
/-!
SUPPORT. Families of statements made per instruction: `Statement` and one lemma per constructor of `Instr`.
-/

namespace Sys2Proof.Laws.TableRow

/-- The default table's entry at the instruction's opcode byte is the mnemonic and mode the instruction stands for; of
0x6C there is none (R72, R90). -/
def Statement (i : Instr) : Prop :=
  defaultConfig.entry i.opcode = i.form.map fun f => (f.1, .known f.2.mode)

theorem ldaIzx (b : Byte) : Statement (.ldaIzx b) := rfl
theorem ldaZp (b : Byte) : Statement (.ldaZp b) := rfl
theorem ldaImm (b : Byte) : Statement (.ldaImm b) := rfl
theorem ldaAbs (lo hi : Byte) : Statement (.ldaAbs lo hi) := rfl
theorem ldaIzy (b : Byte) : Statement (.ldaIzy b) := rfl
theorem ldaZpx (b : Byte) : Statement (.ldaZpx b) := rfl
theorem ldaAby (lo hi : Byte) : Statement (.ldaAby lo hi) := rfl
theorem ldaAbx (lo hi : Byte) : Statement (.ldaAbx lo hi) := rfl
theorem ldxImm (b : Byte) : Statement (.ldxImm b) := rfl
theorem ldxZp (b : Byte) : Statement (.ldxZp b) := rfl
theorem ldxAbs (lo hi : Byte) : Statement (.ldxAbs lo hi) := rfl
theorem ldxZpy (b : Byte) : Statement (.ldxZpy b) := rfl
theorem ldxAby (lo hi : Byte) : Statement (.ldxAby lo hi) := rfl
theorem ldyImm (b : Byte) : Statement (.ldyImm b) := rfl
theorem ldyZp (b : Byte) : Statement (.ldyZp b) := rfl
theorem ldyAbs (lo hi : Byte) : Statement (.ldyAbs lo hi) := rfl
theorem ldyZpx (b : Byte) : Statement (.ldyZpx b) := rfl
theorem ldyAbx (lo hi : Byte) : Statement (.ldyAbx lo hi) := rfl
theorem staIzx (b : Byte) : Statement (.staIzx b) := rfl
theorem staZp (b : Byte) : Statement (.staZp b) := rfl
theorem staAbs (lo hi : Byte) : Statement (.staAbs lo hi) := rfl
theorem staIzy (b : Byte) : Statement (.staIzy b) := rfl
theorem staZpx (b : Byte) : Statement (.staZpx b) := rfl
theorem staAby (lo hi : Byte) : Statement (.staAby lo hi) := rfl
theorem staAbx (lo hi : Byte) : Statement (.staAbx lo hi) := rfl
theorem stxZp (b : Byte) : Statement (.stxZp b) := rfl
theorem stxAbs (lo hi : Byte) : Statement (.stxAbs lo hi) := rfl
theorem stxZpy (b : Byte) : Statement (.stxZpy b) := rfl
theorem styZp (b : Byte) : Statement (.styZp b) := rfl
theorem styAbs (lo hi : Byte) : Statement (.styAbs lo hi) := rfl
theorem styZpx (b : Byte) : Statement (.styZpx b) := rfl
theorem tax : Statement (.tax) := rfl
theorem tay : Statement (.tay) := rfl
theorem txa : Statement (.txa) := rfl
theorem tya : Statement (.tya) := rfl
theorem tsx : Statement (.tsx) := rfl
theorem txs : Statement (.txs) := rfl
theorem pha : Statement (.pha) := rfl
theorem php : Statement (.php) := rfl
theorem pla : Statement (.pla) := rfl
theorem plp : Statement (.plp) := rfl
theorem adcIzx (b : Byte) : Statement (.adcIzx b) := rfl
theorem adcZp (b : Byte) : Statement (.adcZp b) := rfl
theorem adcImm (b : Byte) : Statement (.adcImm b) := rfl
theorem adcAbs (lo hi : Byte) : Statement (.adcAbs lo hi) := rfl
theorem adcIzy (b : Byte) : Statement (.adcIzy b) := rfl
theorem adcZpx (b : Byte) : Statement (.adcZpx b) := rfl
theorem adcAby (lo hi : Byte) : Statement (.adcAby lo hi) := rfl
theorem adcAbx (lo hi : Byte) : Statement (.adcAbx lo hi) := rfl
theorem sbcIzx (b : Byte) : Statement (.sbcIzx b) := rfl
theorem sbcZp (b : Byte) : Statement (.sbcZp b) := rfl
theorem sbcImm (b : Byte) : Statement (.sbcImm b) := rfl
theorem sbcAbs (lo hi : Byte) : Statement (.sbcAbs lo hi) := rfl
theorem sbcIzy (b : Byte) : Statement (.sbcIzy b) := rfl
theorem sbcZpx (b : Byte) : Statement (.sbcZpx b) := rfl
theorem sbcAby (lo hi : Byte) : Statement (.sbcAby lo hi) := rfl
theorem sbcAbx (lo hi : Byte) : Statement (.sbcAbx lo hi) := rfl
theorem andIzx (b : Byte) : Statement (.andIzx b) := rfl
theorem andZp (b : Byte) : Statement (.andZp b) := rfl
theorem andImm (b : Byte) : Statement (.andImm b) := rfl
theorem andAbs (lo hi : Byte) : Statement (.andAbs lo hi) := rfl
theorem andIzy (b : Byte) : Statement (.andIzy b) := rfl
theorem andZpx (b : Byte) : Statement (.andZpx b) := rfl
theorem andAby (lo hi : Byte) : Statement (.andAby lo hi) := rfl
theorem andAbx (lo hi : Byte) : Statement (.andAbx lo hi) := rfl
theorem oraIzx (b : Byte) : Statement (.oraIzx b) := rfl
theorem oraZp (b : Byte) : Statement (.oraZp b) := rfl
theorem oraImm (b : Byte) : Statement (.oraImm b) := rfl
theorem oraAbs (lo hi : Byte) : Statement (.oraAbs lo hi) := rfl
theorem oraIzy (b : Byte) : Statement (.oraIzy b) := rfl
theorem oraZpx (b : Byte) : Statement (.oraZpx b) := rfl
theorem oraAby (lo hi : Byte) : Statement (.oraAby lo hi) := rfl
theorem oraAbx (lo hi : Byte) : Statement (.oraAbx lo hi) := rfl
theorem eorIzx (b : Byte) : Statement (.eorIzx b) := rfl
theorem eorZp (b : Byte) : Statement (.eorZp b) := rfl
theorem eorImm (b : Byte) : Statement (.eorImm b) := rfl
theorem eorAbs (lo hi : Byte) : Statement (.eorAbs lo hi) := rfl
theorem eorIzy (b : Byte) : Statement (.eorIzy b) := rfl
theorem eorZpx (b : Byte) : Statement (.eorZpx b) := rfl
theorem eorAby (lo hi : Byte) : Statement (.eorAby lo hi) := rfl
theorem eorAbx (lo hi : Byte) : Statement (.eorAbx lo hi) := rfl
theorem bitZp (b : Byte) : Statement (.bitZp b) := rfl
theorem bitAbs (lo hi : Byte) : Statement (.bitAbs lo hi) := rfl
theorem cmpIzx (b : Byte) : Statement (.cmpIzx b) := rfl
theorem cmpZp (b : Byte) : Statement (.cmpZp b) := rfl
theorem cmpImm (b : Byte) : Statement (.cmpImm b) := rfl
theorem cmpAbs (lo hi : Byte) : Statement (.cmpAbs lo hi) := rfl
theorem cmpIzy (b : Byte) : Statement (.cmpIzy b) := rfl
theorem cmpZpx (b : Byte) : Statement (.cmpZpx b) := rfl
theorem cmpAby (lo hi : Byte) : Statement (.cmpAby lo hi) := rfl
theorem cmpAbx (lo hi : Byte) : Statement (.cmpAbx lo hi) := rfl
theorem cpxImm (b : Byte) : Statement (.cpxImm b) := rfl
theorem cpxZp (b : Byte) : Statement (.cpxZp b) := rfl
theorem cpxAbs (lo hi : Byte) : Statement (.cpxAbs lo hi) := rfl
theorem cpyImm (b : Byte) : Statement (.cpyImm b) := rfl
theorem cpyZp (b : Byte) : Statement (.cpyZp b) := rfl
theorem cpyAbs (lo hi : Byte) : Statement (.cpyAbs lo hi) := rfl
theorem incZp (b : Byte) : Statement (.incZp b) := rfl
theorem incAbs (lo hi : Byte) : Statement (.incAbs lo hi) := rfl
theorem incZpx (b : Byte) : Statement (.incZpx b) := rfl
theorem incAbx (lo hi : Byte) : Statement (.incAbx lo hi) := rfl
theorem decZp (b : Byte) : Statement (.decZp b) := rfl
theorem decAbs (lo hi : Byte) : Statement (.decAbs lo hi) := rfl
theorem decZpx (b : Byte) : Statement (.decZpx b) := rfl
theorem decAbx (lo hi : Byte) : Statement (.decAbx lo hi) := rfl
theorem inx : Statement (.inx) := rfl
theorem iny : Statement (.iny) := rfl
theorem dex : Statement (.dex) := rfl
theorem dey : Statement (.dey) := rfl
theorem aslZp (b : Byte) : Statement (.aslZp b) := rfl
theorem aslImp : Statement (.aslImp) := rfl
theorem aslAbs (lo hi : Byte) : Statement (.aslAbs lo hi) := rfl
theorem aslZpx (b : Byte) : Statement (.aslZpx b) := rfl
theorem aslAbx (lo hi : Byte) : Statement (.aslAbx lo hi) := rfl
theorem lsrZp (b : Byte) : Statement (.lsrZp b) := rfl
theorem lsrImp : Statement (.lsrImp) := rfl
theorem lsrAbs (lo hi : Byte) : Statement (.lsrAbs lo hi) := rfl
theorem lsrZpx (b : Byte) : Statement (.lsrZpx b) := rfl
theorem lsrAbx (lo hi : Byte) : Statement (.lsrAbx lo hi) := rfl
theorem rolZp (b : Byte) : Statement (.rolZp b) := rfl
theorem rolImp : Statement (.rolImp) := rfl
theorem rolAbs (lo hi : Byte) : Statement (.rolAbs lo hi) := rfl
theorem rolZpx (b : Byte) : Statement (.rolZpx b) := rfl
theorem rolAbx (lo hi : Byte) : Statement (.rolAbx lo hi) := rfl
theorem rorZp (b : Byte) : Statement (.rorZp b) := rfl
theorem rorImp : Statement (.rorImp) := rfl
theorem rorAbs (lo hi : Byte) : Statement (.rorAbs lo hi) := rfl
theorem rorZpx (b : Byte) : Statement (.rorZpx b) := rfl
theorem rorAbx (lo hi : Byte) : Statement (.rorAbx lo hi) := rfl
theorem clc : Statement (.clc) := rfl
theorem sec : Statement (.sec) := rfl
theorem cli : Statement (.cli) := rfl
theorem sei : Statement (.sei) := rfl
theorem cld : Statement (.cld) := rfl
theorem sed : Statement (.sed) := rfl
theorem clv : Statement (.clv) := rfl
theorem jmpAbs (lo hi : Byte) : Statement (.jmpAbs lo hi) := rfl
theorem jmpInd (lo hi : Byte) : Statement (.jmpInd lo hi) := rfl
theorem jsr (lo hi : Byte) : Statement (.jsr lo hi) := rfl
theorem rts : Statement (.rts) := rfl
theorem bcc (o : Byte) : Statement (.bcc o) := rfl
theorem bcs (o : Byte) : Statement (.bcs o) := rfl
theorem beq (o : Byte) : Statement (.beq o) := rfl
theorem bne (o : Byte) : Statement (.bne o) := rfl
theorem bmi (o : Byte) : Statement (.bmi o) := rfl
theorem bpl (o : Byte) : Statement (.bpl o) := rfl
theorem bvc (o : Byte) : Statement (.bvc o) := rfl
theorem bvs (o : Byte) : Statement (.bvs o) := rfl
theorem brk : Statement (.brk) := rfl
theorem rti : Statement (.rti) := rfl
theorem nop : Statement (.nop) := rfl

end Sys2Proof.Laws.TableRow

namespace Sys2Proof.Laws.DecodesBack

/-- The decoder reads the instruction back from its opcode byte and any two bytes its operand bytes begin (R92). -/
def Statement (i : Instr) : Prop :=
  i.wellFormed = true → ∀ rest : List Byte,
    decodeOp i.opcode ((i.operandBytes ++ rest).getD 0 0) ((i.operandBytes ++ rest).getD 1 0) = some i

theorem ldaIzx (b : Byte) : Statement (.ldaIzx b) := fun _ _ => rfl
theorem ldaZp (b : Byte) : Statement (.ldaZp b) := fun _ _ => rfl
theorem ldaImm (b : Byte) : Statement (.ldaImm b) := fun _ _ => rfl
theorem ldaAbs (lo hi : Byte) : Statement (.ldaAbs lo hi) := fun _ _ => rfl
theorem ldaIzy (b : Byte) : Statement (.ldaIzy b) := fun _ _ => rfl
theorem ldaZpx (b : Byte) : Statement (.ldaZpx b) := fun _ _ => rfl
theorem ldaAby (lo hi : Byte) : Statement (.ldaAby lo hi) := fun _ _ => rfl
theorem ldaAbx (lo hi : Byte) : Statement (.ldaAbx lo hi) := fun _ _ => rfl
theorem ldxImm (b : Byte) : Statement (.ldxImm b) := fun _ _ => rfl
theorem ldxZp (b : Byte) : Statement (.ldxZp b) := fun _ _ => rfl
theorem ldxAbs (lo hi : Byte) : Statement (.ldxAbs lo hi) := fun _ _ => rfl
theorem ldxZpy (b : Byte) : Statement (.ldxZpy b) := fun _ _ => rfl
theorem ldxAby (lo hi : Byte) : Statement (.ldxAby lo hi) := fun _ _ => rfl
theorem ldyImm (b : Byte) : Statement (.ldyImm b) := fun _ _ => rfl
theorem ldyZp (b : Byte) : Statement (.ldyZp b) := fun _ _ => rfl
theorem ldyAbs (lo hi : Byte) : Statement (.ldyAbs lo hi) := fun _ _ => rfl
theorem ldyZpx (b : Byte) : Statement (.ldyZpx b) := fun _ _ => rfl
theorem ldyAbx (lo hi : Byte) : Statement (.ldyAbx lo hi) := fun _ _ => rfl
theorem staIzx (b : Byte) : Statement (.staIzx b) := fun _ _ => rfl
theorem staZp (b : Byte) : Statement (.staZp b) := fun _ _ => rfl
theorem staAbs (lo hi : Byte) : Statement (.staAbs lo hi) := fun _ _ => rfl
theorem staIzy (b : Byte) : Statement (.staIzy b) := fun _ _ => rfl
theorem staZpx (b : Byte) : Statement (.staZpx b) := fun _ _ => rfl
theorem staAby (lo hi : Byte) : Statement (.staAby lo hi) := fun _ _ => rfl
theorem staAbx (lo hi : Byte) : Statement (.staAbx lo hi) := fun _ _ => rfl
theorem stxZp (b : Byte) : Statement (.stxZp b) := fun _ _ => rfl
theorem stxAbs (lo hi : Byte) : Statement (.stxAbs lo hi) := fun _ _ => rfl
theorem stxZpy (b : Byte) : Statement (.stxZpy b) := fun _ _ => rfl
theorem styZp (b : Byte) : Statement (.styZp b) := fun _ _ => rfl
theorem styAbs (lo hi : Byte) : Statement (.styAbs lo hi) := fun _ _ => rfl
theorem styZpx (b : Byte) : Statement (.styZpx b) := fun _ _ => rfl
theorem tax : Statement (.tax) := fun _ _ => rfl
theorem tay : Statement (.tay) := fun _ _ => rfl
theorem txa : Statement (.txa) := fun _ _ => rfl
theorem tya : Statement (.tya) := fun _ _ => rfl
theorem tsx : Statement (.tsx) := fun _ _ => rfl
theorem txs : Statement (.txs) := fun _ _ => rfl
theorem pha : Statement (.pha) := fun _ _ => rfl
theorem php : Statement (.php) := fun _ _ => rfl
theorem pla : Statement (.pla) := fun _ _ => rfl
theorem plp : Statement (.plp) := fun _ _ => rfl
theorem adcIzx (b : Byte) : Statement (.adcIzx b) := fun _ _ => rfl
theorem adcZp (b : Byte) : Statement (.adcZp b) := fun _ _ => rfl
theorem adcImm (b : Byte) : Statement (.adcImm b) := fun _ _ => rfl
theorem adcAbs (lo hi : Byte) : Statement (.adcAbs lo hi) := fun _ _ => rfl
theorem adcIzy (b : Byte) : Statement (.adcIzy b) := fun _ _ => rfl
theorem adcZpx (b : Byte) : Statement (.adcZpx b) := fun _ _ => rfl
theorem adcAby (lo hi : Byte) : Statement (.adcAby lo hi) := fun _ _ => rfl
theorem adcAbx (lo hi : Byte) : Statement (.adcAbx lo hi) := fun _ _ => rfl
theorem sbcIzx (b : Byte) : Statement (.sbcIzx b) := fun _ _ => rfl
theorem sbcZp (b : Byte) : Statement (.sbcZp b) := fun _ _ => rfl
theorem sbcImm (b : Byte) : Statement (.sbcImm b) := fun _ _ => rfl
theorem sbcAbs (lo hi : Byte) : Statement (.sbcAbs lo hi) := fun _ _ => rfl
theorem sbcIzy (b : Byte) : Statement (.sbcIzy b) := fun _ _ => rfl
theorem sbcZpx (b : Byte) : Statement (.sbcZpx b) := fun _ _ => rfl
theorem sbcAby (lo hi : Byte) : Statement (.sbcAby lo hi) := fun _ _ => rfl
theorem sbcAbx (lo hi : Byte) : Statement (.sbcAbx lo hi) := fun _ _ => rfl
theorem andIzx (b : Byte) : Statement (.andIzx b) := fun _ _ => rfl
theorem andZp (b : Byte) : Statement (.andZp b) := fun _ _ => rfl
theorem andImm (b : Byte) : Statement (.andImm b) := fun _ _ => rfl
theorem andAbs (lo hi : Byte) : Statement (.andAbs lo hi) := fun _ _ => rfl
theorem andIzy (b : Byte) : Statement (.andIzy b) := fun _ _ => rfl
theorem andZpx (b : Byte) : Statement (.andZpx b) := fun _ _ => rfl
theorem andAby (lo hi : Byte) : Statement (.andAby lo hi) := fun _ _ => rfl
theorem andAbx (lo hi : Byte) : Statement (.andAbx lo hi) := fun _ _ => rfl
theorem oraIzx (b : Byte) : Statement (.oraIzx b) := fun _ _ => rfl
theorem oraZp (b : Byte) : Statement (.oraZp b) := fun _ _ => rfl
theorem oraImm (b : Byte) : Statement (.oraImm b) := fun _ _ => rfl
theorem oraAbs (lo hi : Byte) : Statement (.oraAbs lo hi) := fun _ _ => rfl
theorem oraIzy (b : Byte) : Statement (.oraIzy b) := fun _ _ => rfl
theorem oraZpx (b : Byte) : Statement (.oraZpx b) := fun _ _ => rfl
theorem oraAby (lo hi : Byte) : Statement (.oraAby lo hi) := fun _ _ => rfl
theorem oraAbx (lo hi : Byte) : Statement (.oraAbx lo hi) := fun _ _ => rfl
theorem eorIzx (b : Byte) : Statement (.eorIzx b) := fun _ _ => rfl
theorem eorZp (b : Byte) : Statement (.eorZp b) := fun _ _ => rfl
theorem eorImm (b : Byte) : Statement (.eorImm b) := fun _ _ => rfl
theorem eorAbs (lo hi : Byte) : Statement (.eorAbs lo hi) := fun _ _ => rfl
theorem eorIzy (b : Byte) : Statement (.eorIzy b) := fun _ _ => rfl
theorem eorZpx (b : Byte) : Statement (.eorZpx b) := fun _ _ => rfl
theorem eorAby (lo hi : Byte) : Statement (.eorAby lo hi) := fun _ _ => rfl
theorem eorAbx (lo hi : Byte) : Statement (.eorAbx lo hi) := fun _ _ => rfl
theorem bitZp (b : Byte) : Statement (.bitZp b) := fun _ _ => rfl
theorem bitAbs (lo hi : Byte) : Statement (.bitAbs lo hi) := fun _ _ => rfl
theorem cmpIzx (b : Byte) : Statement (.cmpIzx b) := fun _ _ => rfl
theorem cmpZp (b : Byte) : Statement (.cmpZp b) := fun _ _ => rfl
theorem cmpImm (b : Byte) : Statement (.cmpImm b) := fun _ _ => rfl
theorem cmpAbs (lo hi : Byte) : Statement (.cmpAbs lo hi) := fun _ _ => rfl
theorem cmpIzy (b : Byte) : Statement (.cmpIzy b) := fun _ _ => rfl
theorem cmpZpx (b : Byte) : Statement (.cmpZpx b) := fun _ _ => rfl
theorem cmpAby (lo hi : Byte) : Statement (.cmpAby lo hi) := fun _ _ => rfl
theorem cmpAbx (lo hi : Byte) : Statement (.cmpAbx lo hi) := fun _ _ => rfl
theorem cpxImm (b : Byte) : Statement (.cpxImm b) := fun _ _ => rfl
theorem cpxZp (b : Byte) : Statement (.cpxZp b) := fun _ _ => rfl
theorem cpxAbs (lo hi : Byte) : Statement (.cpxAbs lo hi) := fun _ _ => rfl
theorem cpyImm (b : Byte) : Statement (.cpyImm b) := fun _ _ => rfl
theorem cpyZp (b : Byte) : Statement (.cpyZp b) := fun _ _ => rfl
theorem cpyAbs (lo hi : Byte) : Statement (.cpyAbs lo hi) := fun _ _ => rfl
theorem incZp (b : Byte) : Statement (.incZp b) := fun _ _ => rfl
theorem incAbs (lo hi : Byte) : Statement (.incAbs lo hi) := fun _ _ => rfl
theorem incZpx (b : Byte) : Statement (.incZpx b) := fun _ _ => rfl
theorem incAbx (lo hi : Byte) : Statement (.incAbx lo hi) := fun _ _ => rfl
theorem decZp (b : Byte) : Statement (.decZp b) := fun _ _ => rfl
theorem decAbs (lo hi : Byte) : Statement (.decAbs lo hi) := fun _ _ => rfl
theorem decZpx (b : Byte) : Statement (.decZpx b) := fun _ _ => rfl
theorem decAbx (lo hi : Byte) : Statement (.decAbx lo hi) := fun _ _ => rfl
theorem inx : Statement (.inx) := fun _ _ => rfl
theorem iny : Statement (.iny) := fun _ _ => rfl
theorem dex : Statement (.dex) := fun _ _ => rfl
theorem dey : Statement (.dey) := fun _ _ => rfl
theorem aslZp (b : Byte) : Statement (.aslZp b) := fun _ _ => rfl
theorem aslImp : Statement (.aslImp) := fun _ _ => rfl
theorem aslAbs (lo hi : Byte) : Statement (.aslAbs lo hi) := fun _ _ => rfl
theorem aslZpx (b : Byte) : Statement (.aslZpx b) := fun _ _ => rfl
theorem aslAbx (lo hi : Byte) : Statement (.aslAbx lo hi) := fun _ _ => rfl
theorem lsrZp (b : Byte) : Statement (.lsrZp b) := fun _ _ => rfl
theorem lsrImp : Statement (.lsrImp) := fun _ _ => rfl
theorem lsrAbs (lo hi : Byte) : Statement (.lsrAbs lo hi) := fun _ _ => rfl
theorem lsrZpx (b : Byte) : Statement (.lsrZpx b) := fun _ _ => rfl
theorem lsrAbx (lo hi : Byte) : Statement (.lsrAbx lo hi) := fun _ _ => rfl
theorem rolZp (b : Byte) : Statement (.rolZp b) := fun _ _ => rfl
theorem rolImp : Statement (.rolImp) := fun _ _ => rfl
theorem rolAbs (lo hi : Byte) : Statement (.rolAbs lo hi) := fun _ _ => rfl
theorem rolZpx (b : Byte) : Statement (.rolZpx b) := fun _ _ => rfl
theorem rolAbx (lo hi : Byte) : Statement (.rolAbx lo hi) := fun _ _ => rfl
theorem rorZp (b : Byte) : Statement (.rorZp b) := fun _ _ => rfl
theorem rorImp : Statement (.rorImp) := fun _ _ => rfl
theorem rorAbs (lo hi : Byte) : Statement (.rorAbs lo hi) := fun _ _ => rfl
theorem rorZpx (b : Byte) : Statement (.rorZpx b) := fun _ _ => rfl
theorem rorAbx (lo hi : Byte) : Statement (.rorAbx lo hi) := fun _ _ => rfl
theorem clc : Statement (.clc) := fun _ _ => rfl
theorem sec : Statement (.sec) := fun _ _ => rfl
theorem cli : Statement (.cli) := fun _ _ => rfl
theorem sei : Statement (.sei) := fun _ _ => rfl
theorem cld : Statement (.cld) := fun _ _ => rfl
theorem sed : Statement (.sed) := fun _ _ => rfl
theorem clv : Statement (.clv) := fun _ _ => rfl
theorem jmpAbs (lo hi : Byte) : Statement (.jmpAbs lo hi) := fun _ _ => rfl
theorem jmpInd (lo hi : Byte) : Statement (.jmpInd lo hi) := fun wf => nomatch wf
theorem jsr (lo hi : Byte) : Statement (.jsr lo hi) := fun _ _ => rfl
theorem rts : Statement (.rts) := fun _ _ => rfl
theorem bcc (o : Byte) : Statement (.bcc o) := fun _ _ => rfl
theorem bcs (o : Byte) : Statement (.bcs o) := fun _ _ => rfl
theorem beq (o : Byte) : Statement (.beq o) := fun _ _ => rfl
theorem bne (o : Byte) : Statement (.bne o) := fun _ _ => rfl
theorem bmi (o : Byte) : Statement (.bmi o) := fun _ _ => rfl
theorem bpl (o : Byte) : Statement (.bpl o) := fun _ _ => rfl
theorem bvc (o : Byte) : Statement (.bvc o) := fun _ _ => rfl
theorem bvs (o : Byte) : Statement (.bvs o) := fun _ _ => rfl
theorem brk : Statement (.brk) := fun _ _ => rfl
theorem rti : Statement (.rti) := fun _ _ => rfl
theorem nop : Statement (.nop) := fun _ _ => rfl

end Sys2Proof.Laws.DecodesBack
end

