-- ==== Sys2Proof/Tests/Slice0.lean ====
section
/-!
SUPPORT. The model's own tests: the checks of WellFormed, one word of every constructor written out from the Encoding lines
of 41_load_store.md to 48_system.md, the single-step vectors of 95_test_vectors.md part 2 (at most two for each
instruction), and for every statement with hypotheses a witness that meets them.
-/

open Sys2Proof Sys2Proof.Machine

namespace Sys2Proof.Tests

/-! ## Helpers -/

/-- Put the bytes at pc, take one step, and compare the whole state after it with `change` of the state before it: a field
the change does not name keeps its value. -/
def vector (before : State) (bytes : List Byte) (change : State → State) : Bool :=
  let s := before.storeImage before.pc bytes
  match step s with
  | .next t => decide (t = change s)
  | _ => false

/-- The same under `ARITH_V = PRESERVE` (R136). -/
def vectorPreserve (before : State) (bytes : List Byte) (change : State → State) : Bool :=
  let s := before.storeImage before.pc bytes
  match stepWith { defaultConfig with arithV := .preserve } s with
  | .next t => decide (t = change s)
  | _ => false

/-- After `create()`, the bytes at 0x0600. -/
def loaded (bytes : List Byte) : State :=
  State.reset.storeImage 0x0600 bytes

/-! ## The checks of WellFormed -/

/-- The row of 0x6C is not well-formed (R90). -/
theorem test_wellFormed_refuses_indirect_jump : (Instr.jmpInd 0x00 0x07).wellFormed = false := rfl

theorem test_wellFormed_takes_absolute_jump : (Instr.jmpAbs 0x00 0x07).wellFormed = true := rfl

/-- A configuration that implements RTI is refused (93_implementation_defined.md section 2), and so is its step. -/
theorem test_accepted_refuses_config_without_rti :
    Config.accepted { defaultConfig with unimplemented := [] } = false ∧
    stepWith { defaultConfig with unimplemented := [] } State.reset = .refused .configurationWithoutRti := ⟨rfl, rfl⟩

theorem test_accepted_takes_default : defaultConfig.accepted = true := rfl

/-- A memory list out of order, with a repeated address, with an unlisted value, or past the last address is not canonical. -/
theorem test_memory_wf_refuses :
    ¬ Memory.wf [(2, 1), (1, 1)] ∧ ¬ Memory.wf [(1, 1), (1, 2)] ∧ ¬ Memory.wf [(1, 0)] ∧ ¬ Memory.wf [(65536, 1)] ∧
    Memory.wf [(1, 2), (65535, 1)] := by decide

/-! ## Decoding: a word of every constructor, written out from the spec's Encoding lines -/

/-! ### 41_load_store.md -/

/-- The Encoding line of R111. -/
theorem test_decode_lda :
    decode [0xA1, 0x81] = .ok (.ldaIzx 0x81, []) ∧
    decode [0xA5, 0x81] = .ok (.ldaZp 0x81, []) ∧
    decode [0xA9, 0x81] = .ok (.ldaImm 0x81, []) ∧
    decode [0xAD, 0x34, 0xF2] = .ok (.ldaAbs 0x34 0xF2, []) ∧
    decode [0xB1, 0x81] = .ok (.ldaIzy 0x81, []) ∧
    decode [0xB5, 0x81] = .ok (.ldaZpx 0x81, []) ∧
    decode [0xB9, 0x34, 0xF2] = .ok (.ldaAby 0x34 0xF2, []) ∧
    decode [0xBD, 0x34, 0xF2] = .ok (.ldaAbx 0x34 0xF2, []) :=
  ⟨rfl, rfl, rfl, rfl, rfl, rfl, rfl, rfl⟩

/-- The Encoding line of R112. -/
theorem test_decode_ldx :
    decode [0xA2, 0x81] = .ok (.ldxImm 0x81, []) ∧
    decode [0xA6, 0x81] = .ok (.ldxZp 0x81, []) ∧
    decode [0xAE, 0x34, 0xF2] = .ok (.ldxAbs 0x34 0xF2, []) ∧
    decode [0xB6, 0x81] = .ok (.ldxZpy 0x81, []) ∧
    decode [0xBE, 0x34, 0xF2] = .ok (.ldxAby 0x34 0xF2, []) :=
  ⟨rfl, rfl, rfl, rfl, rfl⟩

/-- The Encoding line of R113. -/
theorem test_decode_ldy :
    decode [0xA0, 0x81] = .ok (.ldyImm 0x81, []) ∧
    decode [0xA4, 0x81] = .ok (.ldyZp 0x81, []) ∧
    decode [0xAC, 0x34, 0xF2] = .ok (.ldyAbs 0x34 0xF2, []) ∧
    decode [0xB4, 0x81] = .ok (.ldyZpx 0x81, []) ∧
    decode [0xBC, 0x34, 0xF2] = .ok (.ldyAbx 0x34 0xF2, []) :=
  ⟨rfl, rfl, rfl, rfl, rfl⟩

/-- The Encoding line of R114. -/
theorem test_decode_sta :
    decode [0x81, 0x81] = .ok (.staIzx 0x81, []) ∧
    decode [0x85, 0x81] = .ok (.staZp 0x81, []) ∧
    decode [0x8D, 0x34, 0xF2] = .ok (.staAbs 0x34 0xF2, []) ∧
    decode [0x91, 0x81] = .ok (.staIzy 0x81, []) ∧
    decode [0x95, 0x81] = .ok (.staZpx 0x81, []) ∧
    decode [0x99, 0x34, 0xF2] = .ok (.staAby 0x34 0xF2, []) ∧
    decode [0x9D, 0x34, 0xF2] = .ok (.staAbx 0x34 0xF2, []) :=
  ⟨rfl, rfl, rfl, rfl, rfl, rfl, rfl⟩

/-- The Encoding line of R115. -/
theorem test_decode_stx :
    decode [0x86, 0x81] = .ok (.stxZp 0x81, []) ∧
    decode [0x8E, 0x34, 0xF2] = .ok (.stxAbs 0x34 0xF2, []) ∧
    decode [0x96, 0x81] = .ok (.stxZpy 0x81, []) :=
  ⟨rfl, rfl, rfl⟩

/-- The Encoding line of R116. -/
theorem test_decode_sty :
    decode [0x84, 0x81] = .ok (.styZp 0x81, []) ∧
    decode [0x8C, 0x34, 0xF2] = .ok (.styAbs 0x34 0xF2, []) ∧
    decode [0x94, 0x81] = .ok (.styZpx 0x81, []) :=
  ⟨rfl, rfl, rfl⟩

/-! ### 42_transfer_stack.md -/

/-- The Encoding line of R121. -/
theorem test_decode_tax :
    decode [0xAA] = .ok (.tax, []) := rfl

/-- The Encoding line of R122. -/
theorem test_decode_tay :
    decode [0xA8] = .ok (.tay, []) := rfl

/-- The Encoding line of R123. -/
theorem test_decode_txa :
    decode [0x8A] = .ok (.txa, []) := rfl

/-- The Encoding line of R124. -/
theorem test_decode_tya :
    decode [0x98] = .ok (.tya, []) := rfl

/-- The Encoding line of R125. -/
theorem test_decode_tsx :
    decode [0xBA] = .ok (.tsx, []) := rfl

/-- The Encoding line of R126. -/
theorem test_decode_txs :
    decode [0x9A] = .ok (.txs, []) := rfl

/-- The Encoding line of R127. -/
theorem test_decode_pha :
    decode [0x48] = .ok (.pha, []) := rfl

/-- The Encoding line of R128. -/
theorem test_decode_php :
    decode [0x08] = .ok (.php, []) := rfl

/-- The Encoding line of R129. -/
theorem test_decode_pla :
    decode [0x68] = .ok (.pla, []) := rfl

/-- The Encoding line of R130. -/
theorem test_decode_plp :
    decode [0x28] = .ok (.plp, []) := rfl

/-! ### 43_alu.md -/

/-- The Encoding line of R137. -/
theorem test_decode_adc :
    decode [0x61, 0x81] = .ok (.adcIzx 0x81, []) ∧
    decode [0x65, 0x81] = .ok (.adcZp 0x81, []) ∧
    decode [0x69, 0x81] = .ok (.adcImm 0x81, []) ∧
    decode [0x6D, 0x34, 0xF2] = .ok (.adcAbs 0x34 0xF2, []) ∧
    decode [0x71, 0x81] = .ok (.adcIzy 0x81, []) ∧
    decode [0x75, 0x81] = .ok (.adcZpx 0x81, []) ∧
    decode [0x79, 0x34, 0xF2] = .ok (.adcAby 0x34 0xF2, []) ∧
    decode [0x7D, 0x34, 0xF2] = .ok (.adcAbx 0x34 0xF2, []) :=
  ⟨rfl, rfl, rfl, rfl, rfl, rfl, rfl, rfl⟩

/-- The Encoding line of R138. -/
theorem test_decode_sbc :
    decode [0xE1, 0x81] = .ok (.sbcIzx 0x81, []) ∧
    decode [0xE5, 0x81] = .ok (.sbcZp 0x81, []) ∧
    decode [0xE9, 0x81] = .ok (.sbcImm 0x81, []) ∧
    decode [0xED, 0x34, 0xF2] = .ok (.sbcAbs 0x34 0xF2, []) ∧
    decode [0xF1, 0x81] = .ok (.sbcIzy 0x81, []) ∧
    decode [0xF5, 0x81] = .ok (.sbcZpx 0x81, []) ∧
    decode [0xF9, 0x34, 0xF2] = .ok (.sbcAby 0x34 0xF2, []) ∧
    decode [0xFD, 0x34, 0xF2] = .ok (.sbcAbx 0x34 0xF2, []) :=
  ⟨rfl, rfl, rfl, rfl, rfl, rfl, rfl, rfl⟩

/-- The Encoding line of R139. -/
theorem test_decode_and :
    decode [0x21, 0x81] = .ok (.andIzx 0x81, []) ∧
    decode [0x25, 0x81] = .ok (.andZp 0x81, []) ∧
    decode [0x29, 0x81] = .ok (.andImm 0x81, []) ∧
    decode [0x2D, 0x34, 0xF2] = .ok (.andAbs 0x34 0xF2, []) ∧
    decode [0x31, 0x81] = .ok (.andIzy 0x81, []) ∧
    decode [0x35, 0x81] = .ok (.andZpx 0x81, []) ∧
    decode [0x39, 0x34, 0xF2] = .ok (.andAby 0x34 0xF2, []) ∧
    decode [0x3D, 0x34, 0xF2] = .ok (.andAbx 0x34 0xF2, []) :=
  ⟨rfl, rfl, rfl, rfl, rfl, rfl, rfl, rfl⟩

/-- The Encoding line of R140. -/
theorem test_decode_ora :
    decode [0x01, 0x81] = .ok (.oraIzx 0x81, []) ∧
    decode [0x05, 0x81] = .ok (.oraZp 0x81, []) ∧
    decode [0x09, 0x81] = .ok (.oraImm 0x81, []) ∧
    decode [0x0D, 0x34, 0xF2] = .ok (.oraAbs 0x34 0xF2, []) ∧
    decode [0x11, 0x81] = .ok (.oraIzy 0x81, []) ∧
    decode [0x15, 0x81] = .ok (.oraZpx 0x81, []) ∧
    decode [0x19, 0x34, 0xF2] = .ok (.oraAby 0x34 0xF2, []) ∧
    decode [0x1D, 0x34, 0xF2] = .ok (.oraAbx 0x34 0xF2, []) :=
  ⟨rfl, rfl, rfl, rfl, rfl, rfl, rfl, rfl⟩

/-- The Encoding line of R141. -/
theorem test_decode_eor :
    decode [0x41, 0x81] = .ok (.eorIzx 0x81, []) ∧
    decode [0x45, 0x81] = .ok (.eorZp 0x81, []) ∧
    decode [0x49, 0x81] = .ok (.eorImm 0x81, []) ∧
    decode [0x4D, 0x34, 0xF2] = .ok (.eorAbs 0x34 0xF2, []) ∧
    decode [0x51, 0x81] = .ok (.eorIzy 0x81, []) ∧
    decode [0x55, 0x81] = .ok (.eorZpx 0x81, []) ∧
    decode [0x59, 0x34, 0xF2] = .ok (.eorAby 0x34 0xF2, []) ∧
    decode [0x5D, 0x34, 0xF2] = .ok (.eorAbx 0x34 0xF2, []) :=
  ⟨rfl, rfl, rfl, rfl, rfl, rfl, rfl, rfl⟩

/-- The Encoding line of R142. -/
theorem test_decode_bit :
    decode [0x24, 0x81] = .ok (.bitZp 0x81, []) ∧
    decode [0x2C, 0x34, 0xF2] = .ok (.bitAbs 0x34 0xF2, []) :=
  ⟨rfl, rfl⟩

/-- The Encoding line of R143. -/
theorem test_decode_cmp :
    decode [0xC1, 0x81] = .ok (.cmpIzx 0x81, []) ∧
    decode [0xC5, 0x81] = .ok (.cmpZp 0x81, []) ∧
    decode [0xC9, 0x81] = .ok (.cmpImm 0x81, []) ∧
    decode [0xCD, 0x34, 0xF2] = .ok (.cmpAbs 0x34 0xF2, []) ∧
    decode [0xD1, 0x81] = .ok (.cmpIzy 0x81, []) ∧
    decode [0xD5, 0x81] = .ok (.cmpZpx 0x81, []) ∧
    decode [0xD9, 0x34, 0xF2] = .ok (.cmpAby 0x34 0xF2, []) ∧
    decode [0xDD, 0x34, 0xF2] = .ok (.cmpAbx 0x34 0xF2, []) :=
  ⟨rfl, rfl, rfl, rfl, rfl, rfl, rfl, rfl⟩

/-- The Encoding line of R144. -/
theorem test_decode_cpx :
    decode [0xE0, 0x81] = .ok (.cpxImm 0x81, []) ∧
    decode [0xE4, 0x81] = .ok (.cpxZp 0x81, []) ∧
    decode [0xEC, 0x34, 0xF2] = .ok (.cpxAbs 0x34 0xF2, []) :=
  ⟨rfl, rfl, rfl⟩

/-- The Encoding line of R145. -/
theorem test_decode_cpy :
    decode [0xC0, 0x81] = .ok (.cpyImm 0x81, []) ∧
    decode [0xC4, 0x81] = .ok (.cpyZp 0x81, []) ∧
    decode [0xCC, 0x34, 0xF2] = .ok (.cpyAbs 0x34 0xF2, []) :=
  ⟨rfl, rfl, rfl⟩

/-! ### 44_incdec.md -/

/-- The Encoding line of R151. -/
theorem test_decode_inc :
    decode [0xE6, 0x81] = .ok (.incZp 0x81, []) ∧
    decode [0xEE, 0x34, 0xF2] = .ok (.incAbs 0x34 0xF2, []) ∧
    decode [0xF6, 0x81] = .ok (.incZpx 0x81, []) ∧
    decode [0xFE, 0x34, 0xF2] = .ok (.incAbx 0x34 0xF2, []) :=
  ⟨rfl, rfl, rfl, rfl⟩

/-- The Encoding line of R152. -/
theorem test_decode_dec :
    decode [0xC6, 0x81] = .ok (.decZp 0x81, []) ∧
    decode [0xCE, 0x34, 0xF2] = .ok (.decAbs 0x34 0xF2, []) ∧
    decode [0xD6, 0x81] = .ok (.decZpx 0x81, []) ∧
    decode [0xDE, 0x34, 0xF2] = .ok (.decAbx 0x34 0xF2, []) :=
  ⟨rfl, rfl, rfl, rfl⟩

/-- The Encoding line of R153. -/
theorem test_decode_inx :
    decode [0xE8] = .ok (.inx, []) := rfl

/-- The Encoding line of R154. -/
theorem test_decode_iny :
    decode [0xC8] = .ok (.iny, []) := rfl

/-- The Encoding line of R155. -/
theorem test_decode_dex :
    decode [0xCA] = .ok (.dex, []) := rfl

/-- The Encoding line of R156. -/
theorem test_decode_dey :
    decode [0x88] = .ok (.dey, []) := rfl

/-! ### 45_shift.md -/

/-- The Encoding line of R161. -/
theorem test_decode_asl :
    decode [0x06, 0x81] = .ok (.aslZp 0x81, []) ∧
    decode [0x0A] = .ok (.aslImp, []) ∧
    decode [0x0E, 0x34, 0xF2] = .ok (.aslAbs 0x34 0xF2, []) ∧
    decode [0x16, 0x81] = .ok (.aslZpx 0x81, []) ∧
    decode [0x1E, 0x34, 0xF2] = .ok (.aslAbx 0x34 0xF2, []) :=
  ⟨rfl, rfl, rfl, rfl, rfl⟩

/-- The Encoding line of R162. -/
theorem test_decode_lsr :
    decode [0x46, 0x81] = .ok (.lsrZp 0x81, []) ∧
    decode [0x4A] = .ok (.lsrImp, []) ∧
    decode [0x4E, 0x34, 0xF2] = .ok (.lsrAbs 0x34 0xF2, []) ∧
    decode [0x56, 0x81] = .ok (.lsrZpx 0x81, []) ∧
    decode [0x5E, 0x34, 0xF2] = .ok (.lsrAbx 0x34 0xF2, []) :=
  ⟨rfl, rfl, rfl, rfl, rfl⟩

/-- The Encoding line of R163. -/
theorem test_decode_rol :
    decode [0x26, 0x81] = .ok (.rolZp 0x81, []) ∧
    decode [0x2A] = .ok (.rolImp, []) ∧
    decode [0x2E, 0x34, 0xF2] = .ok (.rolAbs 0x34 0xF2, []) ∧
    decode [0x36, 0x81] = .ok (.rolZpx 0x81, []) ∧
    decode [0x3E, 0x34, 0xF2] = .ok (.rolAbx 0x34 0xF2, []) :=
  ⟨rfl, rfl, rfl, rfl, rfl⟩

/-- The Encoding line of R164. -/
theorem test_decode_ror :
    decode [0x66, 0x81] = .ok (.rorZp 0x81, []) ∧
    decode [0x6A] = .ok (.rorImp, []) ∧
    decode [0x6E, 0x34, 0xF2] = .ok (.rorAbs 0x34 0xF2, []) ∧
    decode [0x76, 0x81] = .ok (.rorZpx 0x81, []) ∧
    decode [0x7E, 0x34, 0xF2] = .ok (.rorAbx 0x34 0xF2, []) :=
  ⟨rfl, rfl, rfl, rfl, rfl⟩

/-! ### 46_flags.md -/

/-- The Encoding line of R171. -/
theorem test_decode_clc :
    decode [0x18] = .ok (.clc, []) := rfl

/-- The Encoding line of R172. -/
theorem test_decode_sec :
    decode [0x38] = .ok (.sec, []) := rfl

/-- The Encoding line of R173. -/
theorem test_decode_cli :
    decode [0x58] = .ok (.cli, []) := rfl

/-- The Encoding line of R174. -/
theorem test_decode_sei :
    decode [0x78] = .ok (.sei, []) := rfl

/-- The Encoding line of R175. -/
theorem test_decode_cld :
    decode [0xD8] = .ok (.cld, []) := rfl

/-- The Encoding line of R176. -/
theorem test_decode_sed :
    decode [0xF8] = .ok (.sed, []) := rfl

/-- The Encoding line of R177. -/
theorem test_decode_clv :
    decode [0xB8] = .ok (.clv, []) := rfl

/-! ### 47_control.md -/

/-- The Encoding line of R181. Byte 0x6C has no entry (R90). -/
theorem test_decode_jmp :
    decode [0x4C, 0x34, 0xF2] = .ok (.jmpAbs 0x34 0xF2, []) ∧
    (decode [0x6C, 0x34, 0xF2]).toBool = false :=
  ⟨rfl, rfl⟩

/-- The Encoding line of R182. -/
theorem test_decode_jsr :
    decode [0x20, 0x34, 0xF2] = .ok (.jsr 0x34 0xF2, []) := rfl

/-- The Encoding line of R183. -/
theorem test_decode_rts :
    decode [0x60] = .ok (.rts, []) := rfl

/-- The Encoding line of R185. -/
theorem test_decode_bcc :
    decode [0x90, 0x81] = .ok (.bcc 0x81, []) := rfl

/-- The Encoding line of R186. -/
theorem test_decode_bcs :
    decode [0xB0, 0x81] = .ok (.bcs 0x81, []) := rfl

/-- The Encoding line of R187. -/
theorem test_decode_beq :
    decode [0xF0, 0x81] = .ok (.beq 0x81, []) := rfl

/-- The Encoding line of R188. -/
theorem test_decode_bne :
    decode [0xD0, 0x81] = .ok (.bne 0x81, []) := rfl

/-- The Encoding line of R189. -/
theorem test_decode_bmi :
    decode [0x30, 0x81] = .ok (.bmi 0x81, []) := rfl

/-- The Encoding line of R190. -/
theorem test_decode_bpl :
    decode [0x10, 0x81] = .ok (.bpl 0x81, []) := rfl

/-- The Encoding line of R191. -/
theorem test_decode_bvc :
    decode [0x50, 0x81] = .ok (.bvc 0x81, []) := rfl

/-- The Encoding line of R192. -/
theorem test_decode_bvs :
    decode [0x70, 0x81] = .ok (.bvs 0x81, []) := rfl

/-! ### 48_system.md -/

/-- The Encoding line of R200. -/
theorem test_decode_brk :
    decode [0x00] = .ok (.brk, []) := rfl

/-- The Encoding line of R201. -/
theorem test_decode_rti :
    decode [0x40] = .ok (.rti, []) := rfl

/-- The Encoding line of R202. -/
theorem test_decode_nop :
    decode [0xEA] = .ok (.nop, []) := rfl

/-- A truncated instruction does not decode: its last operand byte is missing (R70, R74). -/
theorem test_decode_needs_every_operand_byte :
    (decode []).toBool = false ∧ (decode [0xA9]).toBool = false ∧ (decode [0xAD, 0x34]).toBool = false :=
  ⟨rfl, rfl, rfl⟩

/-- No byte has two entries in the table, nor two rows in the decoder. -/
theorem test_table_bytes_are_distinct :
    (defaultTable.map TableRow.opcode).Pairwise (· ≠ ·) ∧ (decodeRows.map DecodeRow.opcode).Pairwise (· ≠ ·) := by
  decide +kernel

/-- The default table has 150 entries that count and the one excluded row (R72, R90); 105 bytes have none (R89). -/
theorem test_table_sizes :
    defaultTable.length = 151 ∧ (defaultTable.filter fun row => !row.excluded).length = 150 ∧
    decodeRows.length = 150 ∧ undocumentedBytes.length = 105 := by
  decide +kernel

/-! ## The words of the opcode table -/

/-- A table word's first byte is its low byte; the operand bits a row does not list are zero. -/
theorem test_decodeTableWord :
    decodeTableWord 8 0xA9 = some (.ldaImm 0x00) ∧ decodeTableWord 16 0xAAA9 = some (.ldaImm 0xAA) ∧
    decodeTableWord 24 0x1234AD = some (.ldaAbs 0x34 0x12) ∧ decodeTableWord 8 0x6C = none := ⟨rfl, rfl, rfl, rfl⟩

/-- The step after `withFetchWord` on the reset state runs that instruction. -/
theorem test_withFetchWord_runs_the_word :
    (match step (State.reset.withFetchWord 8 0xA9) with
      | .next t => t.pc == 0x0602 && t.A == 0x00 && t.flags.Z && decide (t.run = .running)
      | _ => false) = true ∧
    (match step (State.reset.withFetchWord 24 0x12344C) with
      | .next t => t.pc == 0x1234
      | _ => false) = true := by
  decide +kernel

/-! ## One-step vectors (95_test_vectors.md part 2) -/

/-! ### Addressing modes, dispatch and fatal halts (V-AM) -/

/-- V-AM1: LDA. IMM: the operand is the byte after the opcode. -/
theorem test_am1_imm :
    vector State.reset
      [0xA9, 0x7F] fun s => { s with A := 0x7F, pc := 0x0602 } := rfl

/-- V-AM2: LDA. ZP. -/
theorem test_am2_zp :
    vector { State.reset with mem := [(0x0042, 0x99)] }
      [0xA5, 0x42] fun s => { s with A := 0x99, flags := { s.flags with N := true }, pc := 0x0602 } := rfl

/-- V-AM3: LDA. ZPX spills to page 1: 0xF0 + 0x20 = 0x0110, not 0x0010. -/
theorem test_am3_zpx_spills_to_page_1 :
    vector { State.reset with X := 0x20, mem := [(0x0010, 0x66), (0x0110, 0x55)] }
      [0xB5, 0xF0] fun s => { s with A := 0x55, pc := 0x0602 } := rfl

/-- V-AM4: LDX. ZPY spills to page 1: 0xFF + 1 = 0x0100. -/
theorem test_am4_zpy_spills_to_page_1 :
    vector { State.reset with Y := 0x01, mem := [(0x0100, 0x31)] }
      [0xB6, 0xFF] fun s => { s with X := 0x31, pc := 0x0602 } := rfl

/-- V-AM5: LDA. ABS is little-endian. -/
theorem test_am5_abs_is_little_endian :
    vector { State.reset with mem := [(0x1234, 0x80)] }
      [0xAD, 0x34, 0x12] fun s => { s with A := 0x80, flags := { s.flags with N := true }, pc := 0x0603 } := rfl

/-- V-AM6: LDA. ABX wraps modulo 65536: 0xFFFF + 1 = 0x0000. -/
theorem test_am6_abx_wraps_modulo_65536 :
    vector { State.reset with X := 0x01, mem := [(0x0000, 0x11)] }
      [0xBD, 0xFF, 0xFF] fun s => { s with A := 0x11, pc := 0x0603 } := rfl

/-- V-AM7: LDA. ABY crossing a page has no other effect. -/
theorem test_am7_aby_crossing_a_page_has_no_other_effect :
    vector { State.reset with Y := 0x10, mem := [(0x1300, 0x22)] }
      [0xB9, 0xF0, 0x12] fun s => { s with A := 0x22, pc := 0x0603 } := rfl

/-- V-AM9: LDA. IZX: e+X = 0xFF, pointer high byte from 0x0100, not 0x0000. -/
theorem test_am9_izx :
    vector { State.reset with X := 0x0F, mem := [(0x0000, 0x99), (0x00FF, 0x34), (0x0100, 0x12), (0x1234, 0x77)] }
      [0xA1, 0xF0] fun s => { s with A := 0x77, pc := 0x0602 } := rfl

/-- V-AM11: LDA. IZY: e = 0xFF, pointer high byte from 0x0100, not 0x0000. -/
theorem test_am11_izy :
    vector { State.reset with mem := [(0x0000, 0x05), (0x0100, 0x04), (0x0400, 0xAB)] }
      [0xB1, 0xFF] fun s => { s with A := 0xAB, flags := { s.flags with N := true }, pc := 0x0602 } := rfl

/-- V-AM13: NOP. pc wraps past 0xFFFF after a one-byte instruction. -/
theorem test_am13_pc_wraps_past_0xffff_after_a_one_byte_instru :
    vector { State.reset with pc := 0xFFFF }
      [0xEA] fun s => { s with pc := 0x0000 } := rfl

/-- V-AM15: unknown opcode 0x02: nothing changes, pc = pc0. -/
theorem test_am15_unknown_opcode_0x02 :
    vector { State.reset with A := 0x12 }
      [0x02] fun s => { s with pc := 0x0600, run := .halted (.unknownOpcode 0x02 0x0600) } := rfl

/-- V-AM16: unknown opcode 0xFF. -/
theorem test_am16_unknown_opcode_0xff :
    vector State.reset
      [0xFF] fun s => { s with pc := 0x0600, run := .halted (.unknownOpcode 0xFF 0x0600) } := rfl

/-- V-AM17: JMP. excluded JMP (abs) 0x6C is unknown. -/
theorem test_am17_excluded_jmp_abs_0x6c_is_unknown :
    vector State.reset
      [0x6C, 0x00, 0x07] fun s => { s with pc := 0x0600, run := .halted (.unknownOpcode 0x6C 0x0600) } := rfl

/-- V-AM18: RTI is unimplemented: nothing pulled, pc = pc0. -/
theorem test_am18_rti_is_unimplemented :
    vector { State.reset with sp := 0xFC }
      [0x40] fun s => { s with pc := 0x0600, run := .halted (.unimplementedMnemonic .RTI 0x0600) } := rfl

/-! ### Load and store (V-LS) -/

/-- V-LS5: LDX abs,Y. -/
theorem test_ls5_ldx_abs_y :
    vector { State.reset with Y := 0x03, mem := [(0x2003, 0xFE)] }
      [0xBE, 0x00, 0x20] fun s => { s with X := 0xFE, flags := { s.flags with N := true }, pc := 0x0603 } := rfl

/-- V-LS6: LDY zp,X loads 0x00. -/
theorem test_ls6_ldy_zp_x_loads_0x00 :
    vector { State.reset with X := 0x01, Y := 0x22 }
      [0xB4, 0x10] fun s => { s with Y := 0x00, flags := { s.flags with Z := true }, pc := 0x0602 } := rfl

/-- V-LS7: LDY abs,X. -/
theorem test_ls7_ldy_abs_x :
    vector { State.reset with X := 0xFF, mem := [(0x20FF, 0x7F)] }
      [0xBC, 0x00, 0x20] fun s => { s with Y := 0x7F, pc := 0x0603 } := rfl

/-- V-LS8: STA abs writes no flag. -/
theorem test_ls8_sta_abs_writes_no_flag :
    vector { State.reset with A := 0x00, flags := { State.reset.flags with N := true } }
      [0x8D, 0x00, 0x02] fun s => { s with pc := 0x0603 } := rfl

/-- V-LS9: STA (zp),Y. -/
theorem test_ls9_sta_zp_y :
    vector { State.reset with A := 0x9C, Y := 0x05, mem := [(0x0081, 0x30)] }
      [0x91, 0x80] fun s => { s with pc := 0x0602, mem := Memory.write s.mem 0x3005 0x9C } := rfl

/-- V-LS10: STA zp,X spills into the stack page. -/
theorem test_ls10_sta_zp_x_spills_into_the_stack_page :
    vector { State.reset with A := 0xEE, X := 0x10 }
      [0x95, 0xF8] fun s => { s with pc := 0x0602, mem := Memory.write s.mem 0x0108 0xEE } := rfl

/-- V-LS11: STX zp,Y spills to 0x0100. -/
theorem test_ls11_stx_zp_y_spills_to_0x0100 :
    vector { State.reset with X := 0x07, Y := 0x01 }
      [0x96, 0xFF] fun s => { s with pc := 0x0602, mem := Memory.write s.mem 0x0100 0x07 } := rfl

/-- V-LS12: STY abs. -/
theorem test_ls12_sty_abs :
    vector { State.reset with Y := 0x42 }
      [0x8C, 0x34, 0x12] fun s => { s with pc := 0x0603, mem := Memory.write s.mem 0x1234 0x42 } := rfl

/-! ### Transfers and stack (V-TS) -/

/-- V-TS1: TAX 0x80 sets N. -/
theorem test_ts1_tax_0x80_sets_n :
    vector { State.reset with A := 0x80 }
      [0xAA] fun s => { s with X := 0x80, flags := { s.flags with N := true }, pc := 0x0601 } := rfl

/-- V-TS2: TAY 0x00 sets Z. -/
theorem test_ts2_tay_0x00_sets_z :
    vector { State.reset with A := 0x00, Y := 0x33 }
      [0xA8] fun s => { s with Y := 0x00, flags := { s.flags with Z := true }, pc := 0x0601 } := rfl

/-- V-TS3: TXA clears Z. -/
theorem test_ts3_txa_clears_z :
    vector { State.reset with X := 0x7F, flags := { State.reset.flags with Z := true } }
      [0x8A] fun s => { s with A := 0x7F, flags := { s.flags with Z := false }, pc := 0x0601 } := rfl

/-- V-TS4: TYA 0xFF sets N. -/
theorem test_ts4_tya_0xff_sets_n :
    vector { State.reset with Y := 0xFF }
      [0x98] fun s => { s with A := 0xFF, flags := { s.flags with N := true }, pc := 0x0601 } := rfl

/-- V-TS5: TSX right after create(). -/
theorem test_ts5_tsx_right_after_create :
    vector State.reset
      [0xBA] fun s => { s with X := 0xFF, flags := { s.flags with N := true }, pc := 0x0601 } := rfl

/-- V-TS6: TXS writes no flag. -/
theorem test_ts6_txs_writes_no_flag :
    vector { State.reset with X := 0x00, flags := { State.reset.flags with N := true } }
      [0x9A] fun s => { s with sp := 0x00, pc := 0x0601 } := rfl

/-- V-TS8: PHA at sp = 0x00 writes 0x0100, sp wraps to 0xFF. -/
theorem test_ts8_pha_at_sp_0x00_writes_0x0100_sp_wraps_to_0xf :
    vector { State.reset with A := 0x44, sp := 0x00 }
      [0x48] fun s => { s with sp := 0xFF, pc := 0x0601, mem := Memory.write s.mem 0x0100 0x44 } := rfl

/-- V-TS10: PHP with all seven flags. -/
theorem test_ts10_php_with_all_seven_flags :
    vector { State.reset with flags := { State.reset.flags with N := true, V := true, B := true, D := true, I := true, Z := true, C := true }, sp := 0xF0 }
      [0x08] fun s => { s with sp := 0xEF, pc := 0x0601, mem := Memory.write s.mem 0x01F0 0xDF } := rfl

/-- V-TS12: PLA at sp = 0xFF wraps to 0x00, reads 0x0100. -/
theorem test_ts12_pla_at_sp_0xff_wraps_to_0x00_reads_0x0100 :
    vector { State.reset with mem := [(0x0100, 0x80)] }
      [0x68] fun s => { s with A := 0x80, flags := { s.flags with N := true }, sp := 0x00, pc := 0x0601 } := rfl

/-- V-TS15: PLP 0x05 is per-bit: I and C only (90_conflicts.md C1). -/
theorem test_ts15_plp_0x05_is_per_bit :
    vector { State.reset with flags := { State.reset.flags with N := true, Z := true }, sp := 0xFE, mem := [(0x01FF, 0x05)] }
      [0x28] fun s => { s with flags := { s.flags with N := false, I := true, Z := false, C := true }, sp := 0xFF, pc := 0x0601 } := rfl

/-! ### Arithmetic, logic, compare (V-AL) -/

/-- V-AL2: ADC 0xFF + 0x00 + C: carry out, zero. -/
theorem test_al2_adc_0xff_0x00_c :
    vector { State.reset with A := 0xFF, flags := { State.reset.flags with C := true } }
      [0x69, 0x00] fun s => { s with A := 0x00, flags := { s.flags with Z := true }, pc := 0x0602 } := rfl

/-- V-AL5: ADC 0x7F + 0x00 + C: overflow without carry. -/
theorem test_al5_adc_0x7f_0x00_c :
    vector { State.reset with A := 0x7F, flags := { State.reset.flags with C := true } }
      [0x69, 0x00] fun s => { s with A := 0x80, flags := { s.flags with N := true, V := true, C := false }, pc := 0x0602 } := rfl

/-- V-AL9: SBC 0x00 - 0x00, C = 0 (borrow in). -/
theorem test_al9_sbc_0x00_0x00_c_0_borrow_in :
    vector { State.reset with A := 0x00 }
      [0xE9, 0x00] fun s => { s with A := 0xFF, flags := { s.flags with N := true }, pc := 0x0602 } := rfl

/-- V-AL12: SBC 0x7F - 0xFF, C = 1: overflow and borrow. -/
theorem test_al12_sbc_0x7f_0xff_c_1 :
    vector { State.reset with A := 0x7F, flags := { State.reset.flags with C := true } }
      [0xE9, 0xFF] fun s => { s with A := 0x80, flags := { s.flags with N := true, V := true, C := false }, pc := 0x0602 } := rfl

/-- V-AL13: ADC zp. -/
theorem test_al13_adc_zp :
    vector { State.reset with A := 0x10, mem := [(0x0030, 0x22)] }
      [0x65, 0x30] fun s => { s with A := 0x32, pc := 0x0602 } := rfl

/-- V-AL14: SBC abs,Y. -/
theorem test_al14_sbc_abs_y :
    vector { State.reset with A := 0x10, Y := 0x01, flags := { State.reset.flags with C := true }, mem := [(0x0401, 0x01)] }
      [0xF9, 0x00, 0x04] fun s => { s with A := 0x0F, pc := 0x0603 } := rfl

/-- V-AL15: AND disjoint bits gives 0. -/
theorem test_al15_and_disjoint_bits_gives_0 :
    vector { State.reset with A := 0xF0 }
      [0x29, 0x0F] fun s => { s with A := 0x00, flags := { s.flags with Z := true }, pc := 0x0602 } := rfl

/-- V-AL17: ORA. -/
theorem test_al17_ora :
    vector { State.reset with A := 0x80 }
      [0x09, 0x01] fun s => { s with A := 0x81, flags := { s.flags with N := true }, pc := 0x0602 } := rfl

/-- V-AL19: EOR A with itself. -/
theorem test_al19_eor_a_with_itself :
    vector { State.reset with A := 0xFF }
      [0x49, 0xFF] fun s => { s with A := 0x00, flags := { s.flags with Z := true }, pc := 0x0602 } := rfl

/-- V-AL21: BIT zp: Z from A & M, N and V from M. -/
theorem test_al21_bit_zp :
    vector { State.reset with A := 0x0F, mem := [(0x0010, 0xC0)] }
      [0x24, 0x10] fun s => { s with flags := { s.flags with N := true, V := true, Z := true }, pc := 0x0602 } := rfl

/-- V-AL22: BIT abs: N and V cleared from M, Z = 0. -/
theorem test_al22_bit_abs :
    vector { State.reset with A := 0x01, flags := { State.reset.flags with N := true, V := true }, mem := [(0x1234, 0x01)] }
      [0x2C, 0x34, 0x12] fun s => { s with flags := { s.flags with N := false, V := false }, pc := 0x0603 } := rfl

/-- V-AL25: CMP 0x80 with 0x00: N from the wrapped difference. -/
theorem test_al25_cmp_0x80_with_0x00 :
    vector { State.reset with A := 0x80 }
      [0xC9, 0x00] fun s => { s with flags := { s.flags with N := true, C := true }, pc := 0x0602 } := rfl

/-- V-AL26: CMP 0x00 with 0x01. -/
theorem test_al26_cmp_0x00_with_0x01 :
    vector { State.reset with A := 0x00, flags := { State.reset.flags with C := true } }
      [0xC9, 0x01] fun s => { s with flags := { s.flags with N := true, C := false }, pc := 0x0602 } := rfl

/-- V-AL28: CPX equal. -/
theorem test_al28_cpx_equal :
    vector { State.reset with X := 0x05 }
      [0xE0, 0x05] fun s => { s with flags := { s.flags with Z := true, C := true }, pc := 0x0602 } := rfl

/-- V-AL29: CPX zp greater. -/
theorem test_al29_cpx_zp_greater :
    vector { State.reset with X := 0x90, mem := [(0x0020, 0x10)] }
      [0xE4, 0x20] fun s => { s with flags := { s.flags with N := true, C := true }, pc := 0x0602 } := rfl

/-- V-AL30: CPY 0xFF with 0x00. -/
theorem test_al30_cpy_0xff_with_0x00 :
    vector { State.reset with Y := 0xFF }
      [0xC0, 0x00] fun s => { s with flags := { s.flags with N := true, C := true }, pc := 0x0602 } := rfl

/-- V-AL31: CPY abs less. -/
theorem test_al31_cpy_abs_less :
    vector { State.reset with Y := 0x00, mem := [(0x0300, 0x01)] }
      [0xCC, 0x00, 0x03] fun s => { s with flags := { s.flags with N := true }, pc := 0x0603 } := rfl

/-! ### ADC and SBC under ARITH_V = PRESERVE (V-AP) -/

/-- V-AP11: SBC 0x80 - 0x01, C = 1: overflow. -/
theorem test_ap11_sbc_0x80_0x01_c_1 :
    vectorPreserve { State.reset with A := 0x80, flags := { State.reset.flags with C := true } }
      [0xE9, 0x01] fun s => { s with A := 0x7F, pc := 0x0602 } := rfl

/-! ### Increment and decrement (V-ID) -/

/-- V-ID1: INC zp 0xFF wraps to 0x00, C unchanged. -/
theorem test_id1_inc_zp_0xff_wraps_to_0x00_c_unchanged :
    vector { State.reset with flags := { State.reset.flags with C := true }, mem := [(0x0010, 0xFF)] }
      [0xE6, 0x10] fun s => { s with flags := { s.flags with Z := true }, pc := 0x0602, mem := Memory.write s.mem 0x0010 0x00 } := rfl

/-- V-ID2: INC abs,X 0x7F gives 0x80. -/
theorem test_id2_inc_abs_x_0x7f_gives_0x80 :
    vector { State.reset with X := 0x02, mem := [(0x0302, 0x7F)] }
      [0xFE, 0x00, 0x03] fun s => { s with flags := { s.flags with N := true }, pc := 0x0603, mem := Memory.write s.mem 0x0302 0x80 } := rfl

/-- V-ID3: INC abs. -/
theorem test_id3_inc_abs :
    vector { State.reset with mem := [(0x1000, 0x41)] }
      [0xEE, 0x00, 0x10] fun s => { s with pc := 0x0603, mem := Memory.write s.mem 0x1000 0x42 } := rfl

/-- V-ID4: INC zp,X. -/
theorem test_id4_inc_zp_x :
    vector { State.reset with X := 0x01 }
      [0xF6, 0x10] fun s => { s with pc := 0x0602, mem := Memory.write s.mem 0x0011 0x01 } := rfl

/-- V-ID5: DEC zp 0x00 wraps to 0xFF. -/
theorem test_id5_dec_zp_0x00_wraps_to_0xff :
    vector State.reset
      [0xC6, 0x10] fun s => { s with flags := { s.flags with N := true }, pc := 0x0602, mem := Memory.write s.mem 0x0010 0xFF } := rfl

/-- V-ID6: DEC zp,X 0x01 gives 0x00. -/
theorem test_id6_dec_zp_x_0x01_gives_0x00 :
    vector { State.reset with X := 0x01, mem := [(0x0011, 0x01)] }
      [0xD6, 0x10] fun s => { s with flags := { s.flags with Z := true }, pc := 0x0602, mem := Memory.write s.mem 0x0011 0x00 } := rfl

/-- V-ID7: DEC abs,X. -/
theorem test_id7_dec_abs_x :
    vector { State.reset with X := 0x10, mem := [(0x0210, 0x80)] }
      [0xDE, 0x00, 0x02] fun s => { s with pc := 0x0603, mem := Memory.write s.mem 0x0210 0x7F } := rfl

/-- V-ID8: INX 0xFF wraps. -/
theorem test_id8_inx_0xff_wraps :
    vector { State.reset with X := 0xFF }
      [0xE8] fun s => { s with X := 0x00, flags := { s.flags with Z := true }, pc := 0x0601 } := rfl

/-- V-ID9: INY. -/
theorem test_id9_iny :
    vector State.reset
      [0xC8] fun s => { s with Y := 0x01, pc := 0x0601 } := rfl

/-- V-ID10: DEX 0x00 wraps. -/
theorem test_id10_dex_0x00_wraps :
    vector State.reset
      [0xCA] fun s => { s with X := 0xFF, flags := { s.flags with N := true }, pc := 0x0601 } := rfl

/-- V-ID12: DEY 0x80. -/
theorem test_id12_dey_0x80 :
    vector { State.reset with Y := 0x80, flags := { State.reset.flags with N := true } }
      [0x88] fun s => { s with Y := 0x7F, flags := { s.flags with N := false }, pc := 0x0601 } := rfl

/-! ### Shifts and rotates (V-SH) -/

/-- V-SH1: ASL A 0x81. -/
theorem test_sh1_asl_a_0x81 :
    vector { State.reset with A := 0x81 }
      [0x0A] fun s => { s with A := 0x02, flags := { s.flags with C := true }, pc := 0x0601 } := rfl

/-- V-SH3: ASL zp 0x40: memory form, A unchanged. -/
theorem test_sh3_asl_zp_0x40 :
    vector { State.reset with A := 0x11, mem := [(0x0020, 0x40)] }
      [0x06, 0x20] fun s => { s with flags := { s.flags with N := true }, pc := 0x0602, mem := Memory.write s.mem 0x0020 0x80 } := rfl

/-- V-SH4: ASL abs,X. -/
theorem test_sh4_asl_abs_x :
    vector { State.reset with X := 0x01, mem := [(0x0301, 0xFF)] }
      [0x1E, 0x00, 0x03] fun s => { s with flags := { s.flags with N := true, C := true }, pc := 0x0603, mem := Memory.write s.mem 0x0301 0xFE } := rfl

/-- V-SH5: LSR A 0x01. -/
theorem test_sh5_lsr_a_0x01 :
    vector { State.reset with A := 0x01 }
      [0x4A] fun s => { s with A := 0x00, flags := { s.flags with Z := true, C := true }, pc := 0x0601 } := rfl

/-- V-SH7: LSR abs,X. -/
theorem test_sh7_lsr_abs_x :
    vector { State.reset with X := 0x01, mem := [(0x0301, 0x02)] }
      [0x5E, 0x00, 0x03] fun s => { s with pc := 0x0603, mem := Memory.write s.mem 0x0301 0x01 } := rfl

/-- V-SH8: ROL A with carry in. -/
theorem test_sh8_rol_a_with_carry_in :
    vector { State.reset with A := 0x80, flags := { State.reset.flags with C := true } }
      [0x2A] fun s => { s with A := 0x01, pc := 0x0601 } := rfl

/-- V-SH10: ROL zp,X. -/
theorem test_sh10_rol_zp_x :
    vector { State.reset with X := 0x01, mem := [(0x0021, 0x55)] }
      [0x36, 0x20] fun s => { s with flags := { s.flags with N := true }, pc := 0x0602, mem := Memory.write s.mem 0x0021 0xAA } := rfl

/-- V-SH12: ROR A 0x00 with C = 1. -/
theorem test_sh12_ror_a_0x00_with_c_1 :
    vector { State.reset with A := 0x00, flags := { State.reset.flags with C := true } }
      [0x6A] fun s => { s with A := 0x80, flags := { s.flags with N := true, C := false }, pc := 0x0601 } := rfl

/-- V-SH13: ROR zp. -/
theorem test_sh13_ror_zp :
    vector { State.reset with flags := { State.reset.flags with C := true }, mem := [(0x0020, 0x03)] }
      [0x66, 0x20] fun s => { s with flags := { s.flags with N := true }, pc := 0x0602, mem := Memory.write s.mem 0x0020 0x81 } := rfl

/-- V-SH14: ROR abs: A unchanged. -/
theorem test_sh14_ror_abs :
    vector { State.reset with A := 0x11, mem := [(0x1000, 0x80)] }
      [0x6E, 0x00, 0x10] fun s => { s with pc := 0x0603, mem := Memory.write s.mem 0x1000 0x40 } := rfl

/-! ### Flag instructions (V-FL) -/

/-- V-FL1: CLC. -/
theorem test_fl1_clc :
    vector { State.reset with flags := { State.reset.flags with C := true } }
      [0x18] fun s => { s with flags := { s.flags with C := false }, pc := 0x0601 } := rfl

/-- V-FL2: SEC. -/
theorem test_fl2_sec :
    vector State.reset
      [0x38] fun s => { s with flags := { s.flags with C := true }, pc := 0x0601 } := rfl

/-- V-FL3: CLI. -/
theorem test_fl3_cli :
    vector { State.reset with flags := { State.reset.flags with I := true } }
      [0x58] fun s => { s with flags := { s.flags with I := false }, pc := 0x0601 } := rfl

/-- V-FL4: SEI. -/
theorem test_fl4_sei :
    vector State.reset
      [0x78] fun s => { s with flags := { s.flags with I := true }, pc := 0x0601 } := rfl

/-- V-FL5: CLD. -/
theorem test_fl5_cld :
    vector { State.reset with flags := { State.reset.flags with D := true } }
      [0xD8] fun s => { s with flags := { s.flags with D := false }, pc := 0x0601 } := rfl

/-- V-FL6: SED. -/
theorem test_fl6_sed :
    vector State.reset
      [0xF8] fun s => { s with flags := { s.flags with D := true }, pc := 0x0601 } := rfl

/-- V-FL7: CLV. -/
theorem test_fl7_clv :
    vector { State.reset with flags := { State.reset.flags with V := true } }
      [0xB8] fun s => { s with flags := { s.flags with V := false }, pc := 0x0601 } := rfl

/-! ### Jumps, calls, branches (V-CT) -/

/-- V-CT1: JMP abs. -/
theorem test_ct1_jmp_abs :
    vector State.reset
      [0x4C, 0x34, 0x12] fun s => { s with pc := 0x1234 } := rfl

/-- V-CT3: JSR pushes 0x0603 low byte first. -/
theorem test_ct3_jsr_pushes_0x0603_low_byte_first :
    vector State.reset
      [0x20, 0x00, 0x07] fun s => { s with sp := 0xFD, pc := 0x0700, mem := Memory.write (Memory.write s.mem 0x01FE 0x06) 0x01FF 0x03 } := rfl

/-- V-CT4: JSR at sp = 0x00: bytes at 0x0100 and 0x01FF. -/
theorem test_ct4_jsr_at_sp_0x00 :
    vector { State.reset with sp := 0x00 }
      [0x20, 0x00, 0x07] fun s => { s with sp := 0xFE, pc := 0x0700, mem := Memory.write (Memory.write s.mem 0x0100 0x03) 0x01FF 0x06 } := rfl

/-- V-CT6: RTS after the JSR example. -/
theorem test_ct6_rts_after_the_jsr_example :
    vector { State.reset with sp := 0xFD, pc := 0x0700, mem := [(0x01FE, 0x06), (0x01FF, 0x03)] }
      [0x60] fun s => { s with sp := 0xFF, pc := 0x0603 } := rfl

/-- V-CT8: BCC taken. -/
theorem test_ct8_bcc_taken :
    vector State.reset
      [0x90, 0x10] fun s => { s with pc := 0x0612 } := rfl

/-- V-CT9: BCC not taken. -/
theorem test_ct9_bcc_not_taken :
    vector { State.reset with flags := { State.reset.flags with C := true } }
      [0x90, 0x10] fun s => { s with pc := 0x0602 } := rfl

/-- V-CT10: BCS backward. -/
theorem test_ct10_bcs_backward :
    vector { State.reset with flags := { State.reset.flags with C := true }, pc := 0x0610 }
      [0xB0, 0xF0] fun s => { s with pc := 0x0602 } := rfl

/-- V-CT11: BEQ with offset 0 (taken to the next instruction). -/
theorem test_ct11_beq_with_offset_0_taken_to_the_next_instruct :
    vector { State.reset with flags := { State.reset.flags with Z := true } }
      [0xF0, 0x00] fun s => { s with pc := 0x0602 } := rfl

/-- V-CT12: BNE back edge of the countdown. -/
theorem test_ct12_bne_back_edge_of_the_countdown :
    vector { State.reset with pc := 0x0603 }
      [0xD0, 0xFD] fun s => { s with pc := 0x0602 } := rfl

/-- V-CT13: BNE not taken. -/
theorem test_ct13_bne_not_taken :
    vector { State.reset with flags := { State.reset.flags with Z := true }, pc := 0x0603 }
      [0xD0, 0xFD] fun s => { s with pc := 0x0605 } := rfl

/-- V-CT14: BMI +127. -/
theorem test_ct14_bmi_127 :
    vector { State.reset with flags := { State.reset.flags with N := true } }
      [0x30, 0x7F] fun s => { s with pc := 0x0681 } := rfl

/-- V-CT16: BPL -128. -/
theorem test_ct16_bpl_128 :
    vector State.reset
      [0x10, 0x80] fun s => { s with pc := 0x0582 } := rfl

/-- V-CT17: BVC to itself. -/
theorem test_ct17_bvc_to_itself :
    vector State.reset
      [0x50, 0xFE] fun s => { s with pc := 0x0600 } := rfl

/-- V-CT18: BVS forward past 0xFFFF wraps. -/
theorem test_ct18_bvs_forward_past_0xffff_wraps :
    vector { State.reset with flags := { State.reset.flags with V := true }, pc := 0xFFF0 }
      [0x70, 0x7F] fun s => { s with pc := 0x0071 } := rfl

/-! ### BRK, RTI and NOP (V-SY) -/

/-- V-SY1: BRK. -/
theorem test_sy1_brk :
    vector { State.reset with A := 0x12 }
      [0x00] fun s => { s with pc := 0x0601, run := .halted (.brk 0x0600) } := rfl

/-! ### The host interface -/

/-- R44: an image of two bytes lands at 0x0600 and sets pc. -/
theorem test_load_copies_the_image :
    ((State.reset.jump 0x1234).load [0xA9, 0xAA]).toOption.map (fun t => (t.pc, t.read 0x0600, t.read 0x0601)) =
      some (0x0600, 0xA9, 0xAA) := by
  decide +kernel

/-- R106: the ceiling is reached with the engine RUNNING, or the run has ended before. -/
theorem test_runFor_step_limit :
    (match runFor defaultConfig 1 (loaded [0xEA, 0x00]) with | .stepLimit t => t.pc == 0x0601 | _ => false) = true ∧
    (match runFor defaultConfig 2 (loaded [0xEA, 0x00]) with | .ended t => t.pc == 0x0602 | _ => false) = true := by
  decide +kernel

/-! ## Witnesses: states and operands that meet the hypotheses of each statement that has some -/

theorem witness_DecodeOfEncodeIsTheInstruction :
    (Instr.nop).wellFormed = true ∧ (Instr.bne 0xFF).wellFormed = true ∧ (Instr.ldaAbx 0xFF 0xFF).wellFormed = true :=
  ⟨rfl, rfl, rfl⟩

theorem witness_EncodeOfDecodeIsTheBytes :
    decode [0xEA] = .ok (.nop, []) ∧ decode [0xFF - 0x02, 0xFF, 0xFF, 0x00] = .ok (.sbcAbx 0xFF 0xFF, [0x00]) :=
  ⟨rfl, rfl⟩

theorem witness_DecodeRefusesExactlyTheUnlistedBytes :
    (0x02 : Byte) ∈ undocumentedBytes ∧ (0xFF : Byte) ∈ undocumentedBytes ∧ decodeOp 0xFF 0x00 0x00 = none ∧
    decodeOp 0x6C 0x00 0x00 = none := by
  decide +kernel

theorem witness_LengthIsFixedByTheOpcodeByte :
    decodeOp 0x00 0x00 0x00 = some .brk ∧ decodeOp 0xB1 0xFF 0x00 = some (.ldaIzy 0xFF) ∧
    decodeOp 0xFE 0xFF 0xFF = some (.incAbx 0xFF 0xFF) :=
  ⟨rfl, rfl, rfl⟩

/-- The instruction's bytes wrap past 0xFFFF. -/
theorem witness_StepRunsTheDecodedInstruction :
    let s := { State.reset with pc := 0xFFFE, mem := [(0x0000, 0x12), (0xFFFE, 0xAD), (0xFFFF, 0x34)] }
    s.run = .running ∧ (Instr.ldaAbs 0x34 0x12).wellFormed = true ∧ s.holds (encode (.ldaAbs 0x34 0x12)) := by
  refine ⟨rfl, rfl, fun k b h => ?_⟩
  match k, h with
  | 0, h => cases h; rfl
  | 1, h => cases h; rfl
  | 2, h => cases h; rfl
  | k + 3, h => cases h

theorem witness_StepHaltsOnUnknownOpcode :
    (loaded [0x02]).run = .running ∧ (loaded [0x02]).read (loaded [0x02]).pc ∈ undocumentedBytes ∧
    (loaded [0xFF]).read (loaded [0xFF]).pc ∈ undocumentedBytes ∧ (loaded [0x6C]).read (loaded [0x6C]).pc = 0x6C := by
  decide +kernel

theorem witness_HaltedEngineStaysHalted : (State.reset.raise (.brk 0x0600)).run = .halted (.brk 0x0600) := rfl

theorem witness_RunningEngineAlwaysSteps : State.reset.run = .running := rfl

/-- Each of the three fatal reasons. -/
theorem witness_FatalHaltsArePrecise :
    (stepWith defaultConfig (loaded [0x02]) = .next ((loaded [0x02]).raise (.unknownOpcode 0x02 0x0600)) ∧
      (HaltReason.unknownOpcode 0x02 0x0600).fatal = true) ∧
    (stepWith defaultConfig (loaded [0x40]) = .next ((loaded [0x40]).raise (.unimplementedMnemonic .RTI 0x0600)) ∧
      (HaltReason.unimplementedMnemonic .RTI 0x0600).fatal = true) ∧
    (stepWith { defaultConfig with opcodeTable := [{ opcode := 0x00, mnemonic := .LDA, mode := .ind }] } State.reset =
        .next (State.reset.raise (.invalidAddressingMode .ind 0x0600)) ∧
      (HaltReason.invalidAddressingMode .ind 0x0600).fatal = true) :=
  ⟨⟨rfl, rfl⟩, ⟨rfl, rfl⟩, ⟨rfl, rfl⟩⟩

theorem witness_DefaultEngineHaltsOnlyThreeWays :
    (∃ t, step (loaded [0x00]) = .next t ∧ t.run = .halted (.brk 0x0600)) ∧
    (∃ t, step (loaded [0x6C]) = .next t ∧ t.run = .halted (.unknownOpcode 0x6C 0x0600)) ∧
    (∃ t, step (loaded [0x40]) = .next t ∧ t.run = .halted (.unimplementedMnemonic .RTI 0x0600)) :=
  ⟨⟨_, rfl, rfl⟩, ⟨_, rfl, rfl⟩, ⟨_, rfl, rfl⟩⟩

theorem witness_SequentialPcUnlessControlTransfer :
    (Instr.staAbx 0xFF 0xFF).form = some (.STA, .ref (.abx 0xFF 0xFF)) ∧
    Mnemonic.STA ∉ [Mnemonic.JMP, .JSR, .RTS, .BCC, .BCS, .BEQ, .BNE, .BMI, .BPL, .BVC, .BVS, .RTI] ∧
    ∃ t, exec (.staAbx 0xFF 0xFF) State.reset = .next t :=
  ⟨rfl, by decide, _, rfl⟩

/-- An empty table, and a table whose only row for the byte is excluded. -/
theorem witness_AbsentEntryHaltsUnderAnyTable :
    Config.accepted { defaultConfig with opcodeTable := [] } = true ∧ State.reset.run = .running ∧
    (∀ row ∈ ([] : List TableRow), row.opcode = State.reset.read State.reset.pc → row.excluded = true) ∧
    (∀ row ∈ [({ opcode := 0x00, mnemonic := .BRK, mode := .known .imp, excluded := true } : TableRow)],
      row.opcode = State.reset.read State.reset.pc → row.excluded = true) :=
  ⟨rfl, rfl, by simp, by simp⟩

theorem witness_UnrecognisedModeHaltsFirst :
    let c := { defaultConfig with opcodeTable :=
      [{ opcode := 0x00, mnemonic := .RTI, mode := .ind }, { opcode := 0x01, mnemonic := .LDA, mode := .other 0 }] }
    c.accepted = true ∧ State.reset.run = .running ∧ c.entry (State.reset.read State.reset.pc) = some (.RTI, .ind) ∧
    c.entry 0x01 = some (.LDA, .other 0) ∧ ∀ mode, ModeCode.ind ≠ .known mode ∧ ModeCode.other 0 ≠ .known mode :=
  ⟨rfl, rfl, rfl, rfl, fun _ => ⟨by simp, by simp⟩⟩

theorem witness_UnimplementedSetHalts :
    (loaded [0x40]).run = .running ∧
    defaultConfig.entry ((loaded [0x40]).read (loaded [0x40]).pc) = some (.RTI, .known .imp) ∧
    Mnemonic.RTI ∈ defaultConfig.unimplemented ∧ defaultConfig.accepted = true :=
  ⟨rfl, rfl, by decide, rfl⟩

theorem witness_MissingAddressHalts :
    let c := { defaultConfig with opcodeTable := [{ opcode := 0x00, mnemonic := .BVS, mode := .known .imp }] }
    c.accepted = true ∧ State.reset.run = .running ∧
    c.entry (State.reset.read State.reset.pc) = some (.BVS, .known .imp) ∧ Mnemonic.BVS ∉ c.unimplemented :=
  ⟨rfl, rfl, rfl, by decide⟩

/-- One operand-less mnemonic under a mode of each length. -/
theorem witness_IgnoredOperandBytesAreConsumed :
    let c (mode : Mode) := { defaultConfig with opcodeTable := [{ opcode := 0x00, mnemonic := .TYA, mode := .known mode }] }
    (∀ mode ∈ [Mode.imp, .zp, .abx], (c mode).accepted = true ∧
      (c mode).entry (State.reset.read State.reset.pc) = some (.TYA, .known mode) ∧
      Mnemonic.TYA ∉ (c mode).unimplemented) ∧ State.reset.run = .running := by
  decide +kernel

theorem witness_IndirectJumpUnderBothTables :
    (loaded [0x6C]).run = .running ∧ (loaded [0x6C]).read (loaded [0x6C]).pc = 0x6C := ⟨rfl, rfl⟩

/-- ADC 0x50 + 0x50 overflows (V-AL1); a NOP is the other case. -/
theorem witness_PreserveSettingKeepsOnlyV :
    (∃ code t, defaultConfig.entry ((loaded [0x69, 0x50]).read (loaded [0x69, 0x50]).pc) = some (.ADC, code) ∧
      stepWith { defaultConfig with arithV := .signedOverflow } { loaded [0x69, 0x50] with A := 0x50 } = .next t ∧
      t.flags.V = true) ∧
    (∃ code t, defaultConfig.entry ((loaded [0xEA]).read (loaded [0xEA]).pc) = some (.NOP, code) ∧
      stepWith { defaultConfig with arithV := .signedOverflow } (loaded [0xEA]) = .next t) :=
  ⟨⟨_, _, rfl, rfl, rfl⟩, _, _, rfl, rfl⟩

/-- The longest image that fits and the shortest that does not; the last byte of an image, the bytes on both sides of it. -/
theorem witness_LoadCopiesTheImageVerbatim :
    (List.replicate 64000 (0xEA : Byte)).length ≤ 64000 ∧ 64000 < (List.replicate 64001 (0xEA : Byte)).length ∧
    ([0xA9, 0xAA] : List Byte)[1]? = some 0xAA ∧ (0x05FF : Address).toNat < 0x0600 ∧
    0x0600 + ([0xA9, 0xAA] : List Byte).length ≤ (0x0602 : Address).toNat :=
  ⟨le_of_eq List.length_replicate, lt_of_lt_of_eq (by decide) List.length_replicate.symm, rfl, by decide, by decide⟩

/-- A run without a ceiling that ends, and one with a ceiling of 0. -/
theorem witness_RunHasAtMostOneOutcome :
    (∃ t, RunOf defaultConfig (loaded [0xEA, 0x00]) (.ended t) ∧ runFor defaultConfig 2 (loaded [0xEA, 0x00]) = .ended t) ∧
    defaultConfig.maxSteps = none ∧ defaultConfig.accepted = true ∧
    RunOf { defaultConfig with maxSteps := some 0 } State.reset (.stepLimit State.reset) :=
  ⟨⟨_, ⟨2, _, rfl, rfl⟩, rfl⟩, rfl, rfl, rfl⟩

theorem witness_RelativeAndImmediateForms :
    (Instr.ldaImm 0xAA).form = some (.LDA, .ref (.imm 0xAA)) ∧ (loaded [0xA9, 0xAA]).holds (encode (.ldaImm 0xAA)) := by
  refine ⟨rfl, fun k b h => ?_⟩
  match k, h with
  | 0, h => cases h; rfl
  | 1, h => cases h; rfl
  | k + 2, h => cases h

theorem witness_LoadsSetRegisterAndZN :
    (Instr.ldaIzx 0xFF).form = some (.LDA, .ref (.izx 0xFF)) ∧ (Instr.ldxZpy 0xFF).form = some (.LDX, .ref (.zpy 0xFF)) ∧
    (Instr.ldyAbx 0xFF 0xFF).form = some (.LDY, .ref (.abx 0xFF 0xFF)) := ⟨rfl, rfl, rfl⟩

theorem witness_StoresWriteOneByteAndNoFlag :
    (Instr.staIzy 0xFF).form = some (.STA, .ref (.izy 0xFF)) ∧ (Instr.stxZpy 0xFF).form = some (.STX, .ref (.zpy 0xFF)) ∧
    (Instr.styAbs 0xFF 0xFF).form = some (.STY, .ref (.abs 0xFF 0xFF)) := ⟨rfl, rfl, rfl⟩

theorem witness_PullsReadAboveTheStackTop :
    (0x00 : Byte) = State.reset.read (0x0100 + zext16 (State.reset.sp + 1)) := rfl

theorem witness_AdcAddsWithCarry : (Instr.adcAbx 0xFF 0xFF).form = some (.ADC, .ref (.abx 0xFF 0xFF)) := rfl

theorem witness_SbcSubtractsWithBorrow : (Instr.sbcIzx 0xFF).form = some (.SBC, .ref (.izx 0xFF)) := rfl

theorem witness_LogicAndBitTest :
    (Instr.andImm 0xFF).form = some (.AND, .ref (.imm 0xFF)) ∧ (Instr.oraIzy 0x00).form = some (.ORA, .ref (.izy 0x00)) ∧
    (Instr.eorAby 0x00 0xFF).form = some (.EOR, .ref (.aby 0x00 0xFF)) ∧
    (Instr.bitZp 0xFF).form = some (.BIT, .ref (.zp 0xFF)) := ⟨rfl, rfl, rfl, rfl⟩

theorem witness_ComparesSetCarryZeroNegative :
    (Instr.cmpIzx 0xFF).form = some (.CMP, .ref (.izx 0xFF)) ∧ (Instr.cpxImm 0x00).form = some (.CPX, .ref (.imm 0x00)) ∧
    (Instr.cpyAbs 0xFF 0xFF).form = some (.CPY, .ref (.abs 0xFF 0xFF)) := ⟨rfl, rfl, rfl⟩

theorem witness_MemoryIncrementsAndDecrements :
    (Instr.incZpx 0xFF).form = some (.INC, .ref (.zpx 0xFF)) ∧ (0x01 : Byte) = operandByte (.zpx 0xFF) State.reset + 1 ∧
    (Instr.decAbx 0xFF 0xFF).form = some (.DEC, .ref (.abx 0xFF 0xFF)) ∧
    (0xFF : Byte) = operandByte (.abx 0xFF 0xFF) State.reset - 1 := ⟨rfl, rfl, rfl, rfl⟩

/-- The clauses' equations for `v` at A = 0xFF with C = 1. -/
theorem witness_ShiftsAndRotatesOfTheAccumulator :
    let s := { State.reset with A := 0xFF, flags := { State.reset.flags with C := true } }
    (0xFE : Byte) = BitVec.ofNat 8 (2 * s.A.toNat) ∧ (0x7F : Byte) = BitVec.ofNat 8 (s.A.toNat / 2) ∧
    (0xFF : Byte) = BitVec.ofNat 8 (2 * s.A.toNat + s.flags.C.toNat) ∧
    (0xFF : Byte) = BitVec.ofNat 8 (s.A.toNat / 2 + 128 * s.flags.C.toNat) := ⟨rfl, rfl, rfl, rfl⟩

/-- The same of the byte 0x80 at 0x0010, with C = 0. -/
theorem witness_ShiftsAndRotatesOfMemory :
    let s := { State.reset with mem := [(0x0010, 0x80)] }
    ((Instr.aslZp 0x10).form = some (.ASL, .ref (.zp 0x10)) ∧
      (0x00 : Byte) = BitVec.ofNat 8 (2 * (operandByte (.zp 0x10) s).toNat)) ∧
    ((Instr.lsrAbs 0x10 0x00).form = some (.LSR, .ref (.abs 0x10 0x00)) ∧
      (0x40 : Byte) = BitVec.ofNat 8 ((operandByte (.abs 0x10 0x00) s).toNat / 2)) ∧
    ((Instr.rolZpx 0x10).form = some (.ROL, .ref (.zpx 0x10)) ∧
      (0x00 : Byte) = BitVec.ofNat 8 (2 * (operandByte (.zpx 0x10) s).toNat + s.flags.C.toNat)) ∧
    ((Instr.rorAbx 0x10 0x00).form = some (.ROR, .ref (.abx 0x10 0x00)) ∧
      (0x40 : Byte) = BitVec.ofNat 8 ((operandByte (.abx 0x10 0x00) s).toNat / 2 + 128 * s.flags.C.toNat)) :=
  ⟨⟨rfl, rfl⟩, ⟨rfl, rfl⟩, ⟨rfl, rfl⟩, ⟨rfl, rfl⟩⟩

/-- The highest and the lowest target; the stack bytes an RTS to 0xFFFF pulls, with sp wrapping. -/
theorem witness_JumpsCallsAndReturns :
    (0xFFFF : Address).toNat = (0xFF : Byte).toNat + 256 * (0xFF : Byte).toNat ∧
    (0x0000 : Address).toNat = (0x00 : Byte).toNat + 256 * (0x00 : Byte).toNat ∧
    (let s := { State.reset with sp := 0xFE, mem := [(0x0100, 0xFF), (0x01FF, 0xFF)] }
     s.read (0x0100 + zext16 (s.sp + 1)) = 0xFF ∧ s.read (0x0100 + zext16 (s.sp + 2)) = 0xFF) :=
  ⟨rfl, rfl, rfl, rfl⟩

/-- Offsets +127, -128 and -1, forwards past 0xFFFF and backwards below 0x0000. -/
theorem witness_BranchesTestTheirFlag :
    let target (pc : Address) (o : Byte) : Int :=
      ((pc.toNat : Int) + 2 + (if o.toNat < 0x80 then (o.toNat : Int) else o.toNat - 256)) % 65536
    ((0x0071 : Address).toNat : Int) = target 0xFFF0 0x7F ∧ ((0xFF92 : Address).toNat : Int) = target 0x0010 0x80 ∧
    ((0x0601 : Address).toNat : Int) = target 0x0600 0xFF := by
  decide +kernel

/-- A compare, and the accumulator form of a shift. -/
theorem witness_OnlyStoringFormsWriteMemory :
    (∃ t, exec (.cmpImm 0x00) State.reset = .next t) ∧
    ¬ (Instr.cmpImm 0x00).isOneOf [.STA, .STX, .STY, .INC, .DEC, .PHA, .PHP, .JSR] ∧
    (∀ m r, (Instr.cmpImm 0x00).form = some (m, .ref r) → m ∉ [Mnemonic.ASL, .LSR, .ROL, .ROR]) ∧
    (∃ t, exec .aslImp State.reset = .next t) ∧
    ¬ (Instr.aslImp).isOneOf [.STA, .STX, .STY, .INC, .DEC, .PHA, .PHP, .JSR] ∧
    (∀ m r, (Instr.aslImp).form = some (m, .ref r) → m ∉ [Mnemonic.ASL, .LSR, .ROL, .ROR]) := by
  refine ⟨⟨_, rfl⟩, ?_, ?_, ⟨_, rfl⟩, ?_, ?_⟩ <;> simp [Instr.isOneOf, Instr.form]

theorem witness_StoringFormsWriteOnlyTheirByte :
    ((Instr.staZpx 0xFF).form = some (.STA, .ref (.zpx 0xFF)) ∧ ∃ t, exec (.staZpx 0xFF) State.reset = .next t) ∧
    ((Instr.incAbs 0xFF 0xFF).form = some (.INC, .ref (.abs 0xFF 0xFF)) ∧
      ∃ t, exec (.incAbs 0xFF 0xFF) State.reset = .next t) ∧
    ((Instr.rorAbx 0xFF 0xFF).form = some (.ROR, .ref (.abx 0xFF 0xFF)) ∧
      ∃ t, exec (.rorAbx 0xFF 0xFF) State.reset = .next t) ∧
    (0x0000 : Address) ≠ effectiveAddress (.zpx 0xFF) State.reset :=
  ⟨⟨rfl, _, rfl⟩, ⟨rfl, _, rfl⟩, ⟨rfl, _, rfl⟩, by decide⟩

theorem witness_PushesWriteOnlyTheStackTop :
    (∃ t, exec .pha State.reset = .next t) ∧ (∃ t, exec .php State.reset = .next t) ∧
    (∃ t, exec (.jsr 0xFF 0xFF) { State.reset with sp := 0x00 } = .next t) ∧
    (0x0101 : Address) ≠ stackAddress 0x00 ∧ (0x0101 : Address) ≠ stackAddress (0x00 - 1) :=
  ⟨⟨_, rfl⟩, ⟨_, rfl⟩, ⟨_, rfl⟩, by decide, by decide⟩

/-- For each flag an instruction that changes it. -/
theorem witness_FlagsChangeOnlyByTheirWriters :
    (∃ t, exec (.ldaImm 0x80) State.reset = .next t ∧ t.flags.N ≠ State.reset.flags.N) ∧
    (∃ t, exec (.ldaImm 0x00) State.reset = .next t ∧ t.flags.Z ≠ State.reset.flags.Z) ∧
    (∃ t, exec .sec State.reset = .next t ∧ t.flags.C ≠ State.reset.flags.C) ∧
    (∃ t, exec (.bitZp 0x10) { State.reset with mem := [(0x0010, 0x40)] } = .next t ∧ t.flags.V ≠ State.reset.flags.V) ∧
    (∃ t, exec .sei State.reset = .next t ∧ t.flags.I ≠ State.reset.flags.I) ∧
    (∃ t, exec .sed State.reset = .next t ∧ t.flags.D ≠ State.reset.flags.D) ∧
    (∃ t, exec .plp { State.reset with mem := [(0x0100, 0x10)] } = .next t ∧ t.flags.B ≠ State.reset.flags.B) :=
  ⟨⟨_, rfl, by decide⟩, ⟨_, rfl, by decide⟩, ⟨_, rfl, by decide⟩, ⟨_, rfl, by decide⟩, ⟨_, rfl, by decide⟩,
    ⟨_, rfl, by decide⟩, ⟨_, rfl, by decide⟩⟩

/-- For each register an instruction that changes it. -/
theorem witness_RegistersChangeOnlyByTheirWriters :
    (∃ t, exec (.ldaImm 0x01) State.reset = .next t ∧ t.A ≠ State.reset.A) ∧
    (∃ t, exec .rorImp { State.reset with flags := { State.reset.flags with C := true } } = .next t ∧ t.A ≠ State.reset.A) ∧
    (∃ t, exec .dex State.reset = .next t ∧ t.X ≠ State.reset.X) ∧
    (∃ t, exec .iny State.reset = .next t ∧ t.Y ≠ State.reset.Y) ∧
    (∃ t, exec .rts State.reset = .next t ∧ t.sp ≠ State.reset.sp) ∧
    (∃ t, exec .brk State.reset = .next t ∧ t.run ≠ State.reset.run) ∧
    (∃ t, exec (.jmpInd 0x00 0x00) State.reset = .next t ∧ t.run ≠ State.reset.run) :=
  ⟨⟨_, rfl, by decide⟩, ⟨_, rfl, by decide⟩, ⟨_, rfl, by decide⟩, ⟨_, rfl, by decide⟩, ⟨_, rfl, by decide⟩,
    ⟨_, rfl, by decide⟩, ⟨_, rfl, by decide⟩⟩

/-- A step that writes 0x00 over a listed byte. -/
theorem witness_StepKeepsMemoryCanonical :
    let s := { State.reset with mem := [(0x0010, 0xFF), (0x0600, 0x85), (0x0601, 0x10)] }
    Memory.wf s.mem ∧ (∃ t, step s = .next t ∧ t.mem = [(0x0600, 0x85), (0x0601, 0x10)]) ∧
    ∃ t, stepWith defaultConfig s = .next t :=
  ⟨by decide, ⟨_, rfl, by decide⟩, _, rfl⟩

/-- The same bytes written in two orders. -/
theorem witness_CanonicalMemoriesThatReadAlikeAreEqual :
    let m := Memory.write (Memory.write [] 0x0000 0x01) 0xFFFF 0xFF
    let n := Memory.write (Memory.write [] 0xFFFF 0xFF) 0x0000 0x01
    Memory.wf m ∧ Memory.wf n ∧ m = n := by
  decide

theorem witness_StoredOnlyFlagsReachOnlyPhp :
    ¬ (Instr.adcImm 0x01).isOneOf [.PHP] ∧ (∃ t, exec (.adcImm 0x01) State.reset = .next t) ∧
    ¬ (Instr.cld).isOneOf [.PHP] ∧ (∃ t, exec .cld State.reset = .next t) := by
  refine ⟨?_, ⟨_, rfl⟩, ?_, ⟨_, rfl⟩⟩ <;> simp [Instr.isOneOf, Instr.form]

theorem witness_StackReturnsPushedBytesInReverse :
    (List.replicate 256 (0x55 : Byte)).length ≤ 256 ∧ ([] : List Byte).length ≤ 256 :=
  ⟨le_of_eq List.length_replicate, by decide⟩

/-- A call at sp = 0x00, whose return address straddles the ends of the stack page. -/
theorem witness_ReturnGoesToTheInstructionAfterTheCall :
    ∃ t, exec (.jsr 0x00 0x07) { State.reset with sp := 0x00 } = .next t ∧ t.sp = 0xFE ∧
      t.read (stackAddress 0x00) = 0x03 ∧ t.read (stackAddress (0x00 - 1)) = 0x06 :=
  ⟨_, rfl, rfl, by decide, by decide⟩

/-- Each clause with sp at an end of the stack page; the byte 0x20 that PLP pulls has only bit 5. -/
theorem witness_StatusByteRoundTrips :
    (∃ t, exec .php { State.reset with sp := 0x00 } = .next t ∧ t.sp = 0xFF) ∧
    ∃ t, exec .plp { State.reset with mem := [(0x0100, 0x20)] } = .next t ∧ t.flags = State.reset.flags :=
  ⟨⟨_, rfl, rfl⟩, _, rfl, by decide⟩

/-- V-LS13, STA into the byte after it, and each other storing form with the byte it stores; a push and a call whose stack
bytes are the next instruction's. -/
theorem witness_StoreIntoCodeIsSeenByTheNextFetch :
    (let s := { loaded [0x8D, 0x03, 0x06] with A := 0xEA }
     (Instr.staAbs 0x03 0x06).form = some (.STA, .ref (.abs 0x03 0x06)) ∧
     effectiveAddress (.abs 0x03 0x06) s = nextPc (.ref (.abs 0x03 0x06)) s ∧
     ∃ t, exec (.staAbs 0x03 0x06) s = .next t ∧ t.fetch = some .nop) ∧
    (let s := { State.reset with X := 0xFF, Y := 0xFF, mem := [(0x0604, 0xE9)] }
     let r := Ref.abs 0x04 0x06
     (∃ t, exec (.stxAbs 0x04 0x06) s = .next t) ∧ (∃ t, exec (.styAbs 0x04 0x06) s = .next t) ∧
     (∃ t, exec (.incAbs 0x04 0x06) s = .next t) ∧ (0xEA : Byte) = operandByte r s + 1 ∧
     (∃ t, exec (.decAbs 0x04 0x06) s = .next t) ∧ (0xE8 : Byte) = operandByte r s - 1 ∧
     (∃ t, exec (.aslAbs 0x04 0x06) s = .next t) ∧ (0xD2 : Byte) = BitVec.ofNat 8 (2 * (operandByte r s).toNat) ∧
     (∃ t, exec (.lsrAbs 0x04 0x06) s = .next t) ∧ (0x74 : Byte) = BitVec.ofNat 8 ((operandByte r s).toNat / 2) ∧
     (∃ t, exec (.rolAbs 0x04 0x06) s = .next t) ∧
     (0xD2 : Byte) = BitVec.ofNat 8 (2 * (operandByte r s).toNat + s.flags.C.toNat) ∧
     (∃ t, exec (.rorAbs 0x04 0x06) s = .next t) ∧
     (0x74 : Byte) = BitVec.ofNat 8 ((operandByte r s).toNat / 2 + 128 * s.flags.C.toNat)) ∧
    (let s := { State.reset with A := 0xEA, sp := 0x01, pc := 0x0100 }
     s.pc + 1 = stackAddress s.sp ∧ (∃ t, exec .pha s = .next t ∧ t.fetch = some .nop) ∧
     ∃ t, exec .php s = .next t ∧ t.fetch = some .brk) ∧
    ∃ t, exec (.jsr 0xFE 0x01) State.reset = .next t ∧ t.pc = stackAddress (0xFF - 1) ∧ t.fetch = some (.aslZp 0x03) :=
  ⟨⟨rfl, by decide, _, rfl, by decide⟩,
    ⟨⟨_, rfl⟩, ⟨_, rfl⟩, ⟨_, rfl⟩, rfl, ⟨_, rfl⟩, rfl, ⟨_, rfl⟩, rfl, ⟨_, rfl⟩, rfl, ⟨_, rfl⟩, rfl, ⟨_, rfl⟩, rfl⟩,
    ⟨by decide, ⟨_, rfl, by decide⟩, _, rfl, by decide⟩, _, rfl, by decide, by decide⟩

end Sys2Proof.Tests
end

section
/-!
PROOFS. The step of the hardware is the parametric engine's step at the default configuration (O13).
-/

namespace Sys2Proof

/-! ## The bytes with an entry: the default table against the decoder (R72, R102) -/

theorem Config.entry_eq_none_iff (c : Config) (op : Byte) :
    c.entry op = none ↔ op ∉ (c.opcodeTable.filter fun row => !row.excluded).map TableRow.opcode := by
  simp only [Config.entry, Option.map_eq_none_iff, List.find?_eq_none, List.mem_map, List.mem_filter, Bool.and_eq_true,
    beq_iff_eq, Bool.not_eq_true']
  exact ⟨fun h ⟨row, ⟨hmem, hex⟩, hop⟩ => h row hmem ⟨hop, hex⟩, fun h row hmem ⟨hop, hex⟩ => h ⟨row, ⟨hmem, hex⟩, hop⟩⟩

theorem decodeOp_eq_none_iff (op b1 b2 : Byte) :
    decodeOp op b1 b2 = none ↔ op ∉ decodeRows.map DecodeRow.opcode := by
  simp [decodeOp]

/-- The decoder has a row for each byte the default table has an entry for, in the same order. -/
theorem defaultTable_opcodes_eq_decodeRows_opcodes :
    (defaultConfig.opcodeTable.filter fun row => !row.excluded).map TableRow.opcode =
      decodeRows.map DecodeRow.opcode := by
  simp only [defaultConfig, defaultTable, decodeRows, List.filter_append, List.map_append]
  rfl

/-- The table and the decoder leave out the same bytes; with `decodeOp_entry` the two agree on every byte. -/
theorem defaultConfig_entry_eq_none_iff (op b1 b2 : Byte) :
    defaultConfig.entry op = none ↔ decodeOp op b1 b2 = none := by
  rw [Config.entry_eq_none_iff, defaultTable_opcodes_eq_decodeRows_opcodes, decodeOp_eq_none_iff]

namespace Machine

/-! ## The hardware's step, case by case (R100) -/

theorem step_of_halted {s : State} {reason : HaltReason} (hr : s.run = .halted reason) :
    step s = .fault (.engineHalted reason) := by
  simp [step, hr]

theorem step_of_fetch_none {s : State} (hr : s.run = .running) (hf : s.fetch = none) :
    step s = .next s.rejectOpcode := by
  simp [step, hr, hf]

theorem step_of_fetch_some {s : State} {i : Instr} (hr : s.run = .running) (hf : s.fetch = some i) :
    step s = exec i s := by
  simp [step, hr, hf]

/-! ## The engine's step under an accepted configuration, case by case (R100, R217) -/

theorem stepWith_of_halted {c : Config} {s : State} {reason : HaltReason} (hc : c.accepted = true)
    (hr : s.run = .halted reason) : stepWith c s = .fault (.engineHalted reason) := by
  simp [stepWith, hc, hr]

theorem stepWith_of_entry_none {c : Config} {s : State} (hc : c.accepted = true) (hr : s.run = .running)
    (he : c.entry (s.read s.pc) = none) : stepWith c s = .next s.rejectOpcode := by
  simp [stepWith, hc, hr, he]

theorem stepWith_of_entry_known {c : Config} {s : State} {m : Mnemonic} {mode : Mode} (hc : c.accepted = true)
    (hr : s.run = .running) (he : c.entry (s.read s.pc) = some (m, .known mode)) :
    stepWith c s = perform c m (mode.operand (s.read (s.pc + 1)) (s.read (s.pc + 2))) s := by
  simp [stepWith, hc, hr, he]

theorem defaultConfig_accepted : defaultConfig.accepted = true := rfl

/-- Settles O13: the two steps ask the same questions in the same order. Where the decoder has nothing the default table
has no entry, and a decoded instruction stands for the entry the engine finds, at which `exec` is `perform`. -/
theorem stepIsTheParametricEngineAtDefaults : Obligations.StepIsTheParametricEngineAtDefaults := by
  intro s
  cases hr : s.run with
  | halted reason => rw [step_of_halted hr, stepWith_of_halted defaultConfig_accepted hr]
  | running =>
    cases hf : s.fetch with
    | none =>
      have he := (defaultConfig_entry_eq_none_iff _ _ _).2 hf
      rw [step_of_fetch_none hr hf, stepWith_of_entry_none defaultConfig_accepted hr he]
    | some i =>
      obtain ⟨m, mode, he, hform⟩ := decodeOp_entry hf
      rw [step_of_fetch_some hr hf, exec_of_form hform, stepWith_of_entry_known defaultConfig_accepted hr he]

end Machine

end Sys2Proof

end

section
/-!
PROOFS. What a handler can do to the state, said once as data (`Effect`): which mnemonics have which effect, and that
the effect does not look at D, I or B. The statements about flags, registers and memory over all instructions follow.
-/

namespace Sys2Proof.Machine

/-! ## Effects -/

/-- What a handler does to the state whose pc is past the operand bytes. -/
inductive Effect where
  | nothing
  | branch (cond : Bool) (a : Address)
  | writeA (v : Byte)
  | writeX (v : Byte)
  | writeY (v : Byte)
  | arith (c v : Bool) (r : Byte)
  | compare (reg v : Byte)
  | bitTest (z n v : Bool)
  | store (a : Address) (v : Byte)
  | storeResult (a : Address) (v : Byte)
  | shiftA (v : Byte) (c : Bool)
  | shiftMem (a : Address) (v : Byte) (c : Bool)
  | setC (f : Bool)
  | setV (f : Bool)
  | setI (f : Bool)
  | setD (f : Bool)
  | setSp (v : Byte)
  | push (v : Byte)
  | pushFlags
  | pullA
  | pullFlags
  | call (a : Address)
  | ret
  | halt (reason : HaltReason)

/-- The state after the effect. -/
@[simp] def Effect.apply : Effect → State → State
  | .nothing, u => u
  | .branch cond a, u => u.branch cond a
  | .writeA v, u => u.writeA v
  | .writeX v, u => u.writeX v
  | .writeY v, u => u.writeY v
  | .arith c v r, u => ((u.setC c).setV v).writeA r
  | .compare reg v, u => { u with flags := u.flags.compare reg v }
  | .bitTest z n v, u => { u with flags := { u.flags with Z := z, N := n, V := v } }
  | .store a v, u => u.store a v
  | .storeResult a v, u => u.storeResult a v
  | .shiftA v c, u => (u.writeA v).setC c
  | .shiftMem a v c, u => (u.storeResult a v).setC c
  | .setC f, u => u.setC f
  | .setV f, u => u.setV f
  | .setI f, u => u.setI f
  | .setD f, u => u.setD f
  | .setSp v, u => { u with sp := v }
  | .push v, u => u.push v
  | .pushFlags, u => u.push (packFlags u.flags)
  | .pullA, u => u.pull.2.writeA u.pull.1
  | .pullFlags, u => { u.pull.2 with flags := unpackFlags u.pull.1 }
  | .call a, u => u.jsr a
  | .ret, u => u.rts
  | .halt reason, u => u.raise reason

/-- The mnemonics whose handler has an effect of this kind. -/
@[simp] def Effect.mnemonics : Effect → List Mnemonic
  | .nothing => [.NOP]
  | .branch _ _ => [.JMP, .BCC, .BCS, .BEQ, .BNE, .BMI, .BPL, .BVC, .BVS]
  | .writeA _ => [.LDA, .TXA, .TYA, .AND, .ORA, .EOR]
  | .writeX _ => [.LDX, .TAX, .TSX, .INX, .DEX]
  | .writeY _ => [.LDY, .TAY, .INY, .DEY]
  | .arith _ _ _ => [.ADC, .SBC]
  | .compare _ _ => [.CMP, .CPX, .CPY]
  | .bitTest _ _ _ => [.BIT]
  | .store _ _ => [.STA, .STX, .STY]
  | .storeResult _ _ => [.INC, .DEC]
  | .shiftA _ _ => [.ASL, .LSR, .ROL, .ROR]
  | .shiftMem _ _ _ => [.ASL, .LSR, .ROL, .ROR]
  | .setC _ => [.CLC, .SEC]
  | .setV _ => [.CLV]
  | .setI _ => [.CLI, .SEI]
  | .setD _ => [.CLD, .SED]
  | .setSp _ => [.TXS]
  | .push _ => [.PHA]
  | .pushFlags => [.PHP]
  | .pullA => [.PLA]
  | .pullFlags => [.PLP]
  | .call _ => [.JSR]
  | .ret => [.RTS]
  | .halt _ => [.BRK]

/-- The table entry `m o` may have the effect: a shift of A has no operand (R160). -/
def Effect.allowed (e : Effect) (m : Mnemonic) (o : Operand) : Prop :=
  m ∈ e.mnemonics ∧ ∀ v c, e = .shiftA v c → o = .imp

/-! ## States that differ in D, I or B only (R25 to R27) -/

/-- Values for some of the three flags that no rule reads but PHP's. -/
structure StoredFlags where
  D : Option Bool := none
  I : Option Bool := none
  B : Option Bool := none

/-- The state with these flags replaced. -/
def State.overlay (s : State) (w : StoredFlags) : State :=
  { s with flags := { s.flags with D := w.D.getD s.flags.D, I := w.I.getD s.flags.I, B := w.B.getD s.flags.B } }

/-- Flags that `w` leaves alone are left alone by `w'`. -/
structure StoredFlags.Within (w' w : StoredFlags) : Prop where
  D : w.D = none → w'.D = none
  I : w.I = none → w'.I = none
  B : w.B = none → w'.B = none

/-- What of a replacement is left after an effect: a flag the effect writes has its own value. -/
def Effect.leaves (w : StoredFlags) : Effect → StoredFlags
  | .setI _ => { w with I := none }
  | .setD _ => { w with D := none }
  | .pullFlags => {}
  | _ => w

theorem Effect.leaves_within (e : Effect) (w : StoredFlags) : (e.leaves w).Within w := by
  cases e with
  | setI f => exact ⟨id, fun _ => rfl, id⟩
  | setD f => exact ⟨fun _ => rfl, id, id⟩
  | pullFlags => exact ⟨fun _ => rfl, fun _ => rfl, fun _ => rfl⟩
  | _ => exact ⟨id, id, id⟩

theorem Effect.apply_overlay {e : Effect} (he : e ≠ .pushFlags) (u : State) (w : StoredFlags) :
    e.apply (u.overlay w) = (e.apply u).overlay (e.leaves w) := by
  cases e with
  | pushFlags => exact (he rfl).elim
  | branch cond a => cases cond <;> rfl
  | _ => rfl

/-- The run from `s` to `t` has an effect of the table entry `m o`, the same whatever D, I and B are. -/
def HasEffect (m : Mnemonic) (o : Operand) (run : State → Option State) (s t : State) : Prop :=
  ∃ e : Effect, e.allowed m o ∧ t = e.apply (s.past o) ∧
    ∀ w, run (s.overlay w) = some (e.apply ((s.overlay w).past o))

theorem hasEffect_of_needsAddress {c : Config} {m : Mnemonic} {o : Operand} {s t : State} {op : Ref → State → State}
    (hc : catalogue c m = .needsAddress op) (h : handled c m o s = some t)
    (he : ∀ r, HasEffect m (.ref r) (fun u => some (op r u)) s (op r s)) : HasEffect m o (handled c m o) s t := by
  cases o with
  | imp => simp [handled, hc] at h
  | ref r =>
    have hrun : handled c m (.ref r) = fun u => some (op r u) := by simp [funext_iff, handled, hc]
    rw [hrun] at h ⊢
    cases h
    exact he r

theorem hasEffect_of_operand {c : Config} {m : Mnemonic} {o : Operand} {s t : State} {op : Operand → State → State}
    (hc : catalogue c m = .either op ∨ catalogue c m = .ignoresAddress op) (h : handled c m o s = some t)
    (he : HasEffect m o (fun u => some (op o u)) s (op o s)) : HasEffect m o (handled c m o) s t := by
  have hrun : handled c m o = fun u => some (op o u) := by
    rcases hc with hc | hc <;> simp [funext_iff, handled, hc]
  rw [hrun] at h ⊢
  cases h
  exact he

/-- Everything a handler can do: an effect its mnemonic has, on the state past the operand. No handler but PHP's reads D,
I or B, so with them replaced it computes the same effect. -/
theorem handled_hasEffect {c : Config} {m : Mnemonic} {o : Operand} {s t : State} (h : handled c m o s = some t) :
    HasEffect m o (handled c m o) s t := by
  cases m with
  | LDA | AND | ORA | EOR =>
    exact hasEffect_of_needsAddress rfl h fun _ => ⟨.writeA _, ⟨by simp, nofun⟩, rfl, fun _ => rfl⟩
  | LDX =>
    exact hasEffect_of_needsAddress rfl h fun _ => ⟨.writeX _, ⟨by simp, nofun⟩, rfl, fun _ => rfl⟩
  | LDY =>
    exact hasEffect_of_needsAddress rfl h fun _ => ⟨.writeY _, ⟨by simp, nofun⟩, rfl, fun _ => rfl⟩
  | ADC | SBC =>
    exact hasEffect_of_needsAddress rfl h fun _ => ⟨.arith _ _ _, ⟨by simp, nofun⟩, rfl, fun _ => rfl⟩
  | CMP | CPX | CPY =>
    exact hasEffect_of_needsAddress rfl h fun _ => ⟨.compare _ _, ⟨by simp, nofun⟩, rfl, fun _ => rfl⟩
  | BIT =>
    exact hasEffect_of_needsAddress rfl h fun _ => ⟨.bitTest _ _ _, ⟨by simp, nofun⟩, rfl, fun _ => rfl⟩
  | STA | STX | STY =>
    exact hasEffect_of_needsAddress rfl h fun _ => ⟨.store _ _, ⟨by simp, nofun⟩, rfl, fun _ => rfl⟩
  | INC | DEC =>
    exact hasEffect_of_needsAddress rfl h fun _ => ⟨.storeResult _ _, ⟨by simp, nofun⟩, rfl, fun _ => rfl⟩
  | BCC | BCS | BEQ | BNE | BMI | BPL | BVC | BVS =>
    exact hasEffect_of_needsAddress rfl h fun _ => ⟨.branch _ _, ⟨by simp, nofun⟩, rfl, fun _ => rfl⟩
  | JMP =>
    exact hasEffect_of_needsAddress rfl h fun _ => ⟨.branch true _, ⟨by simp, nofun⟩, rfl, fun _ => rfl⟩
  | JSR =>
    exact hasEffect_of_needsAddress rfl h fun _ => ⟨.call _, ⟨by simp, nofun⟩, rfl, fun _ => rfl⟩
  | ASL | LSR | ROL | ROR =>
    refine hasEffect_of_operand (.inl rfl) h ?_
    cases o with
    | imp => exact ⟨.shiftA _ _, ⟨by simp, fun _ _ _ => rfl⟩, rfl, fun _ => rfl⟩
    | ref r => exact ⟨.shiftMem _ _ _, ⟨by simp, nofun⟩, rfl, fun _ => rfl⟩
  | TXA | TYA => exact hasEffect_of_operand (.inr rfl) h ⟨.writeA _, ⟨by simp, nofun⟩, rfl, fun _ => rfl⟩
  | TAX | TSX | INX | DEX =>
    exact hasEffect_of_operand (.inr rfl) h ⟨.writeX _, ⟨by simp, nofun⟩, rfl, fun _ => rfl⟩
  | TAY | INY | DEY => exact hasEffect_of_operand (.inr rfl) h ⟨.writeY _, ⟨by simp, nofun⟩, rfl, fun _ => rfl⟩
  | CLC | SEC => exact hasEffect_of_operand (.inr rfl) h ⟨.setC _, ⟨by simp, nofun⟩, rfl, fun _ => rfl⟩
  | CLV => exact hasEffect_of_operand (.inr rfl) h ⟨.setV _, ⟨by simp, nofun⟩, rfl, fun _ => rfl⟩
  | CLI | SEI => exact hasEffect_of_operand (.inr rfl) h ⟨.setI _, ⟨by simp, nofun⟩, rfl, fun _ => rfl⟩
  | CLD | SED => exact hasEffect_of_operand (.inr rfl) h ⟨.setD _, ⟨by simp, nofun⟩, rfl, fun _ => rfl⟩
  | TXS => exact hasEffect_of_operand (.inr rfl) h ⟨.setSp _, ⟨by simp, nofun⟩, rfl, fun _ => rfl⟩
  | PHA => exact hasEffect_of_operand (.inr rfl) h ⟨.push _, ⟨by simp, nofun⟩, rfl, fun _ => rfl⟩
  | PHP => exact hasEffect_of_operand (.inr rfl) h ⟨.pushFlags, ⟨by simp, nofun⟩, rfl, fun _ => rfl⟩
  | PLA => exact hasEffect_of_operand (.inr rfl) h ⟨.pullA, ⟨by simp, nofun⟩, rfl, fun _ => rfl⟩
  | PLP => exact hasEffect_of_operand (.inr rfl) h ⟨.pullFlags, ⟨by simp, nofun⟩, rfl, fun _ => rfl⟩
  | RTS => exact hasEffect_of_operand (.inr rfl) h ⟨.ret, ⟨by simp, nofun⟩, rfl, fun _ => rfl⟩
  | BRK => exact hasEffect_of_operand (.inr rfl) h ⟨.halt _, ⟨by simp, nofun⟩, rfl, fun _ => rfl⟩
  | NOP => exact hasEffect_of_operand (.inr rfl) h ⟨.nothing, ⟨by simp, nofun⟩, rfl, fun _ => rfl⟩
  | RTI => cases h

/-! ## What exec can do: halt without a handler, or an effect -/

theorem isOneOf_iff_of_form {i : Instr} {m : Mnemonic} {o : Operand} (hf : i.form = some (m, o))
    (ms : List Mnemonic) : i.isOneOf ms ↔ m ∈ ms := by
  simp [Instr.isOneOf, hf]

/-- The row without a table entry is the one of 0x6C (R90; log 7). -/
theorem exec_of_form_none {i : Instr} (hf : i.form = none) (s : State) :
    exec i s = .next (s.raise (.unknownOpcode 0x6C s.pc)) := by
  cases i with
  | jmpInd lo hi => rfl
  | _ => cases hf

/-- RTI and the row of 0x6C halt with the state otherwise kept; every other instruction answers its handler's state. -/
theorem exec_halts_or_handled (i : Instr) :
    ((i.isOneOf [.RTI] ∨ i.wellFormed = false) ∧
      ∃ reason : Address → HaltReason, ∀ s, exec i s = .next (s.raise (reason s.pc))) ∨
    ∃ m o, i.form = some (m, o) ∧ ∀ s t, exec i s = .next t ↔ handled defaultConfig m o s = some t := by
  cases hf : i.form with
  | none => exact .inl ⟨.inr (by simp [Instr.wellFormed, hf]), _, exec_of_form_none hf⟩
  | some entry =>
    obtain ⟨m, o⟩ := entry
    by_cases hm : m = .RTI
    · subst hm
      exact .inl ⟨.inl ((isOneOf_iff_of_form hf _).2 (by simp)), .unimplementedMnemonic .RTI, exec_of_form hf⟩
    · refine .inr ⟨m, o, rfl, fun s t => ⟨fun h => ?_, fun h => exec_of_handled hf h hm⟩⟩
      exact (exec_cases hf h).resolve_left fun ⟨hrti, _⟩ => hm hrti

/-- Everything `exec` can do, by effects. -/
theorem exec_effect {i : Instr} {s t : State} (h : exec i s = .next t) :
    ((i.isOneOf [.RTI] ∨ i.wellFormed = false) ∧ ∃ reason, t = s.raise reason) ∨
    ∃ m o, ∃ e : Effect, i.form = some (m, o) ∧ e.allowed m o ∧ t = e.apply (s.past o) := by
  rcases exec_halts_or_handled i with ⟨hi, reason, hx⟩ | ⟨m, o, hf, hx⟩
  · rw [hx] at h
    cases h
    exact .inl ⟨hi, _, rfl⟩
  · obtain ⟨e, he, ht, _⟩ := handled_hasEffect ((hx s t).1 h)
    exact .inr ⟨m, o, e, hf, he, ht⟩

/-! ## The flags and registers an effect leaves alone -/

/-- The writers of N and Z in the table of R24. -/
def nzWriters : List Mnemonic :=
  [.LDA, .LDX, .LDY, .TAX, .TAY, .TXA, .TYA, .TSX, .PLA, .ADC, .SBC, .AND, .ORA, .EOR, .CMP, .CPX, .CPY, .INC, .DEC,
    .INX, .INY, .DEX, .DEY, .ASL, .LSR, .ROL, .ROR, .BIT, .PLP]

/-- The writers of C in the table of R24. -/
def cWriters : List Mnemonic :=
  [.ADC, .SBC, .CMP, .CPX, .CPY, .ASL, .LSR, .ROL, .ROR, .CLC, .SEC, .PLP]

/-- The writers of V in the table of R24. -/
def vWriters : List Mnemonic :=
  [.ADC, .SBC, .BIT, .CLV, .PLP]

theorem State.branch_eq_jump (s : State) (cond : Bool) (a : Address) :
    s.branch cond a = s.jump (if cond then a else s.pc) := by
  cases cond <;> rfl

/-- An effect leaves a flag alone, or its mnemonics stand in the flag's row of R24. -/
theorem Effect.apply_flags (e : Effect) (u : State) :
    ((e.apply u).flags.N = u.flags.N ∨ e.mnemonics ⊆ nzWriters) ∧
    ((e.apply u).flags.Z = u.flags.Z ∨ e.mnemonics ⊆ nzWriters) ∧
    ((e.apply u).flags.C = u.flags.C ∨ e.mnemonics ⊆ cWriters) ∧
    ((e.apply u).flags.V = u.flags.V ∨ e.mnemonics ⊆ vWriters) ∧
    ((e.apply u).flags.I = u.flags.I ∨ e.mnemonics ⊆ [.CLI, .SEI, .PLP]) ∧
    ((e.apply u).flags.D = u.flags.D ∨ e.mnemonics ⊆ [.CLD, .SED, .PLP]) ∧
    ((e.apply u).flags.B = u.flags.B ∨ e.mnemonics ⊆ [.PLP]) := by
  cases e with
  | nothing | store | setSp | push | pushFlags | halt => simp
  | branch => simp [State.branch_eq_jump]
  | call => simp [State.jsr]
  | ret => simp [State.rts]
  | writeA | writeX | writeY | storeResult | pullA => simp [nzWriters]
  | compare | shiftA | shiftMem => simp [nzWriters, cWriters]
  | bitTest => simp [nzWriters, vWriters]
  | arith | pullFlags => simp [nzWriters, cWriters, vWriters]
  | setC => simp [cWriters]
  | setV => simp [vWriters]
  | setI | setD => simp

/-- Settles O51: RTI and the row of 0x6C halt without writing a flag; every other instruction has one of the effects. -/
theorem flagsChangeOnlyByTheirWriters : Obligations.FlagsChangeOnlyByTheirWriters := by
  intro i s t h
  rcases exec_effect h with ⟨_, reason, rfl⟩ | ⟨m, o, e, hf, ⟨hm, _⟩, rfl⟩
  · simp
  · obtain ⟨hN, hZ, hC, hV, hI, hD, hB⟩ := e.apply_flags (s.past o)
    simp only [isOneOf_iff_of_form hf]
    exact ⟨fun h => hN.resolve_left h hm, fun h => hZ.resolve_left h hm, fun h => hC.resolve_left h hm,
      fun h => hV.resolve_left h hm, fun h => hI.resolve_left h hm, fun h => hD.resolve_left h hm,
      fun h => hB.resolve_left h hm⟩

/-- An effect leaves a register alone, or its mnemonics are those whose rules write it; A is also written by the shifts
of A. -/
theorem Effect.apply_registers (e : Effect) (u : State) :
    ((e.apply u).A = u.A ∨ e.mnemonics ⊆ [.LDA, .TXA, .TYA, .PLA, .ADC, .SBC, .AND, .ORA, .EOR] ∨
      ∃ v c, e = .shiftA v c) ∧
    ((e.apply u).X = u.X ∨ e.mnemonics ⊆ [.LDX, .TAX, .TSX, .INX, .DEX]) ∧
    ((e.apply u).Y = u.Y ∨ e.mnemonics ⊆ [.LDY, .TAY, .INY, .DEY]) ∧
    ((e.apply u).sp = u.sp ∨ e.mnemonics ⊆ [.TXS, .PHA, .PHP, .PLA, .PLP, .JSR, .RTS]) ∧
    ((e.apply u).run = u.run ∨ e.mnemonics ⊆ [.BRK]) := by
  cases e with
  | branch => simp [State.branch_eq_jump]
  | call => simp [State.jsr]
  | ret => simp [State.rts]
  | _ => simp

/-- The four shifts without an operand (R160). -/
theorem form_shift_imp {i : Instr} {m : Mnemonic} (hf : i.form = some (m, .imp)) (hm : m ∈ [.ASL, .LSR, .ROL, .ROR]) :
    i = .aslImp ∨ i = .lsrImp ∨ i = .rolImp ∨ i = .rorImp := by
  cases i with
  | aslImp | lsrImp | rolImp | rorImp => simp
  | _ => cases hf <;> simp at hm

/-- Settles O52: the halts of RTI and of the row of 0x6C write the run state; every other instruction has one of the
effects, of which a shift of A is one of the four rows without an operand. -/
theorem registersChangeOnlyByTheirWriters : Obligations.RegistersChangeOnlyByTheirWriters := by
  intro i s t h
  rcases exec_effect h with ⟨hi, reason, rfl⟩ | ⟨m, o, e, hf, ⟨hm, hshift⟩, rfl⟩
  · have hrun : i.isOneOf [.BRK, .RTI] ∨ i.wellFormed = false :=
      hi.imp_left fun ⟨m, hm, ho⟩ => ⟨m, List.mem_cons_of_mem _ hm, ho⟩
    simp [hrun]
  · obtain ⟨hA, hX, hY, hsp, hrun⟩ := e.apply_registers (s.past o)
    simp only [isOneOf_iff_of_form hf]
    refine ⟨fun h => ?_, fun h => hX.resolve_left h hm, fun h => hY.resolve_left h hm, fun h => hsp.resolve_left h hm,
      fun h => .inl (List.mem_append_left [Mnemonic.RTI] (hrun.resolve_left h hm))⟩
    rcases hA.resolve_left h with hA | ⟨v, c, rfl⟩
    · exact .inl (hA hm)
    · obtain rfl := hshift v c rfl
      exact .inr (form_shift_imp hf hm)

/-! ## D, I and B reach only PHP (R25 to R27) -/

/-- With D, I and B replaced before an instruction other than PHP, the state after is the same but for flags replaced. -/
theorem exec_overlay {i : Instr} {s t : State} (hi : ¬ i.isOneOf [.PHP]) (h : exec i s = .next t) (w : StoredFlags) :
    ∃ w' : StoredFlags, w'.Within w ∧ exec i (s.overlay w) = .next (t.overlay w') := by
  rcases exec_halts_or_handled i with ⟨_, reason, hx⟩ | ⟨m, o, hf, hx⟩
  · rw [hx] at h
    cases h
    exact ⟨w, ⟨id, id, id⟩, hx _⟩
  · obtain ⟨e, ⟨hm, _⟩, rfl, he⟩ := handled_hasEffect ((hx s t).1 h)
    have hphp : e ≠ .pushFlags := by
      rintro rfl
      exact hi ((isOneOf_iff_of_form hf _).2 hm)
    refine ⟨e.leaves w, e.leaves_within w, (hx _ _).2 ?_⟩
    rw [he w, ← Effect.apply_overlay hphp]
    rfl

/-- Settles O56: each of the three replacements is an overlay of one flag. -/
theorem storedOnlyFlagsReachOnlyPhp : Obligations.StoredOnlyFlagsReachOnlyPhp := by
  intro i s t f hi h
  refine ⟨?_, ?_, ?_⟩
  · obtain ⟨⟨_, _, _⟩, ⟨_, hI, hB⟩, hx⟩ := exec_overlay hi h { D := some f }
    cases hI rfl
    cases hB rfl
    exact ⟨_, hx⟩
  · obtain ⟨⟨_, _, _⟩, ⟨hD, _, hB⟩, hx⟩ := exec_overlay hi h { I := some f }
    cases hD rfl
    cases hB rfl
    exact ⟨_, hx⟩
  · obtain ⟨⟨_, _, _⟩, ⟨hD, hI, _⟩, hx⟩ := exec_overlay hi h { B := some f }
    cases hD rfl
    cases hI rfl
    exact ⟨_, hx⟩

/-! ## Memory stays canonical (log 10) -/

theorem Effect.apply_wf {e : Effect} {u : State} (h : Memory.wf u.mem) : Memory.wf (e.apply u).mem := by
  cases e with
  | branch cond a => exact State.branch_mem u cond a ▸ h
  | store a v => exact State.store_wf a v h
  | storeResult a v | shiftMem a v c => exact State.storeResult_wf a v h
  | push v => exact State.push_wf v h
  | pushFlags => exact State.push_wf _ h
  | call a => exact State.jsr_wf a h
  | _ => exact h

theorem perform_wf {c : Config} {m : Mnemonic} {o : Operand} {s t : State} (hs : Memory.wf s.mem)
    (h : perform c m o s = .next t) : Memory.wf t.mem := by
  rcases perform_cases h with ⟨_, rfl⟩ | ⟨_, hh⟩ | ⟨_, _, _, rfl⟩
  · exact hs
  · obtain ⟨e, _, rfl, _⟩ := handled_hasEffect hh
    exact Effect.apply_wf hs
  · exact hs

theorem stepWith_wf {c : Config} {s t : State} (hs : Memory.wf s.mem) (h : stepWith c s = .next t) :
    Memory.wf t.mem := by
  obtain ⟨_, _, ⟨_, rfl⟩ | ⟨_, _, _, _, rfl⟩ | ⟨_, _, _, hp⟩⟩ := stepWith_cases h
  · exact hs
  · exact hs
  · exact perform_wf hs hp

/-- Settles O54: halts keep memory, and every effect writes it by `Memory.write` or not at all; the hardware's step is
the engine's at the default configuration. -/
theorem stepKeepsMemoryCanonical : Obligations.StepKeepsMemoryCanonical :=
  ⟨fun s _ hs h => stepWith_wf hs ((stepIsTheParametricEngineAtDefaults s).symm.trans h),
    fun _ _ _ hs h => stepWith_wf hs h⟩

end Sys2Proof.Machine
end

section
/-!
PROOFS. Canonical memories (log 10) as the bytes they read, the status byte on the stack (R28, R29), and the state after
creation (R230).
-/

namespace Sys2Proof.Machine

/-! ## A canonical memory is what it reads -/

theorem Memory.read_of_mem {m : Memory} (sorted : m.Pairwise fun c d => c.1 < d.1) {c : Host.Cell} (hc : c ∈ m)
    {a : Address} (ha : c.1 = a.toNat) : Memory.read m a = c.2 := by
  induction m with
  | nil => cases hc
  | cons d m ih =>
    obtain ⟨hd, sorted⟩ := List.pairwise_cons.1 sorted
    rw [Memory.read_cons]
    rcases List.mem_cons.1 hc with rfl | hc
    · exact if_pos ha
    · have := hd c hc
      rw [if_neg (by omega), ih sorted hc]

theorem Memory.mem_of_read_ne {m : Memory} {a : Address} (h : Memory.read m a ≠ unlistedByte) :
    (a.toNat, Memory.read m a) ∈ m := by
  induction m with
  | nil => exact (h rfl).elim
  | cons c m ih =>
    rw [Memory.read_cons] at h ⊢
    split
    case isTrue hc => simp [← hc]
    case isFalse hc => exact List.mem_cons_of_mem _ (ih (by rwa [if_neg hc] at h))

/-- A canonical memory lists exactly the nonzero bytes it reads. -/
theorem Memory.mem_iff_read {m : Memory} (hm : Memory.wf m) (c : Host.Cell) :
    c ∈ m ↔ c.2 ≠ unlistedByte ∧ ∃ a : Address, c.1 = a.toNat ∧ Memory.read m a = c.2 := by
  obtain ⟨sorted, entries⟩ := hm
  constructor
  · intro hc
    obtain ⟨hlt, hne⟩ := entries c hc
    exact ⟨hne, ⟨⟨c.1, hlt⟩⟩, rfl, Memory.read_of_mem sorted hc rfl⟩
  · rintro ⟨hne, a, ha, hr⟩
    have := Memory.mem_of_read_ne (hr ▸ hne)
    rwa [hr, ← ha] at this

/-- Settles O55: both memories are sorted lists of the same entries. -/
theorem canonicalMemoriesThatReadAlikeAreEqual : Obligations.CanonicalMemoriesThatReadAlikeAreEqual := by
  intro m n hm hn alike
  have same (c : Host.Cell) : c ∈ m ↔ c ∈ n := by
    simp only [Memory.mem_iff_read hm, Memory.mem_iff_read hn, alike]
  have irrefl : Std.Irrefl fun c d : Host.Cell => c.1 < d.1 := ⟨fun c => Nat.lt_irrefl c.1⟩
  have antisymm : Std.Antisymm fun c d : Host.Cell => c.1 < d.1 := ⟨fun c d h h' => (Nat.lt_asymm h h').elim⟩
  exact hm.1.eq_of_mem_iff hn.1 same

/-! ## The status byte -/

/-- Bit 5 is the one bit no flag has (R28, R29; decision D4). -/
theorem pack_unpack : ∀ p : Byte, packFlags (unpackFlags p) = p &&& 0xDF := by decide

theorem exec_php (s : State) : exec .php s = .next ((s.past .imp).push (packFlags s.flags)) := rfl

theorem exec_plp (s : State) : exec .plp s =
    .next { s with pc := s.pc + 1, sp := s.sp + 1, flags := unpackFlags (s.read (stackAddress (s.sp + 1))) } := rfl

/-- Settles O59: the pull reads the byte the push stored, and `unpackFlags` and `packFlags` are inverse but for bit 5. -/
theorem statusByteRoundTrips : Obligations.StatusByteRoundTrips := by
  constructor
  · intro s t u h hsp hmem
    rw [exec_php] at h
    cases h
    have hsp : u.sp + 1 = s.sp := by simp [hsp]
    have hread : u.read (stackAddress s.sp) = packFlags s.flags := by
      rw [State.read_congr hmem, State.read_push]
      exact if_pos rfl
    rw [exec_plp, hsp, hread, unpack_pack]
  · intro s t u h hflags
    rw [exec_plp] at h
    cases h
    have hpacked : packFlags u.flags = s.read (stackAddress (s.sp + 1)) &&& 0xDF := by rw [hflags, pack_unpack]
    rw [exec_php, hpacked]
    rfl

/-- Settles O21: the fields are the values `State.reset` lists, and a memory without entries reads 0x00 everywhere. -/
theorem resetLeavesTheListedValues : Obligations.ResetLeavesTheListedValues :=
  ⟨rfl, rfl, rfl, rfl, rfl, rfl, rfl, rfl, rfl, rfl, rfl, rfl, rfl, fun a => Memory.read_nil a⟩

end Sys2Proof.Machine
end

section
/-!
PROOFS. Memory (20_memory.md): reads after a write, a load, a push, a call; the stack as a last-in first-out store; the
instructions that leave memory alone; the fetch after an instruction that wrote.
-/

namespace Sys2Proof.Machine

/-- Settles O25: `Memory.read_write` for the memory of the state, of which a store rewrites nothing else. -/
theorem readReturnsTheLatestWrite : Obligations.ReadReturnsTheLatestWrite :=
  fun s a b v => ⟨State.read_store s a b v, rfl⟩

/-! ## Load (R44) -/

/-- The byte at `b` after an image of at most 65536 bytes is stored from `a` on: the image's byte at the distance of `b`
from `a`, modulo 65536, if it has one. -/
theorem State.read_storeImage (s : State) (a b : Address) (image : List Byte) (fits : image.length ≤ 65536) :
    (s.storeImage a image).read b = image[(b - a).toNat]?.getD (s.read b) := by
  induction image generalizing s a with
  | nil => rfl
  | cons v image ih =>
    rw [List.length_cons] at fits
    rw [State.storeImage, ih _ _ (by omega), State.read_store]
    by_cases hb : b = a
    · have : image.length ≤ (b - (a + 1)).toNat := by bv_omega
      rw [if_pos hb, List.getElem?_eq_none this, hb]
      simp
    · have : (b - a).toNat = (b - (a + 1)).toNat + 1 := by bv_omega
      rw [if_neg hb, this, List.getElem?_cons_succ]

theorem State.storeImage_eq (s : State) (a : Address) (image : List Byte) :
    s.storeImage a image = { s with mem := (s.storeImage a image).mem } := by
  induction image generalizing s a with
  | nil => rfl
  | cons v image ih => exact ih (s.store a v) (a + 1)

/-- Settles O22: an address inside the image is at its byte's distance from 0x0600, one outside is past its end, since
64000 bytes from 0x0600 on end at 0xFFFF. -/
theorem loadCopiesTheImageVerbatim : Obligations.LoadCopiesTheImageVerbatim := by
  refine fun s image => ⟨fun hlen => ⟨_, if_pos hlen, fun k b hk => ?_, fun a ha => ?_, ?_⟩, fun hlen => if_neg (by omega)⟩
  · have hread := s.read_storeImage programOffset (0x0600 + BitVec.ofNat 16 k) image (by omega)
    obtain ⟨hk', _⟩ := List.getElem?_eq_some_iff.1 hk
    have hdist : ((0x0600 : Address) + BitVec.ofNat 16 k - programOffset).toNat = k := by
      rw [programOffset]; bv_omega
    rw [hdist, hk] at hread
    exact hread
  · have hread := s.read_storeImage programOffset a image (by omega)
    have hpast : image.length ≤ (a - programOffset).toNat := by
      rw [programOffset]; bv_omega
    rw [List.getElem?_eq_none hpast] at hread
    exact hread
  · rw [s.storeImage_eq]
    rfl

/-! ## The stack: last in, first out (R45 to R47) -/

theorem State.pushAll_concat (s : State) (vs : List Byte) (v : Byte) :
    s.pushAll (vs ++ [v]) = (s.pushAll vs).push v := by
  induction vs generalizing s with
  | nil => rfl
  | cons w vs ih => exact ih (s.push w)

theorem State.pushAll_sp (s : State) (vs : List Byte) :
    (s.pushAll vs).sp = s.sp - BitVec.ofNat 8 vs.length := by
  induction vs generalizing s with
  | nil => simp [State.pushAll]
  | cons v vs ih =>
    rw [State.pushAll, ih, State.push_sp, List.length_cons]
    bv_omega

/-- `n` pulls read the `n` bytes above sp, upwards, and move sp. -/
theorem State.pullAll_eq (s : State) (n : Nat) : s.pullAll n =
    ((List.range n).map fun k => s.read (stackAddress (s.sp + 1 + BitVec.ofNat 8 k)),
      { s with sp := s.sp + BitVec.ofNat 8 n }) := by
  induction n generalizing s with
  | zero => simp [State.pullAll]
  | succ n ih =>
    have hsp (k : Nat) : s.sp + 1 + 1 + BitVec.ofNat 8 k = s.sp + 1 + BitVec.ofNat 8 (k + 1) := by bv_omega
    have hn : s.sp + 1 + BitVec.ofNat 8 n = s.sp + BitVec.ofNat 8 (n + 1) := by bv_omega
    simp only [State.pullAll, State.pull_fst, State.pull_snd, ih, List.range_succ_eq_map, List.map_cons, List.map_map,
      Function.comp_def, hsp, hn, BitVec.add_zero]
    rfl

theorem State.pullAll_sp (s : State) (n : Nat) : (s.pullAll n).2.sp = s.sp + BitVec.ofNat 8 n := by
  rw [State.pullAll_eq]

/-- A push, then `n + 1` pulls: the byte pushed, then what `n` pulls gave before it, while the page has not wrapped. -/
theorem State.pullAll_push (s : State) (v : Byte) {n : Nat} (hn : n < 256) :
    ((s.push v).pullAll (n + 1)).1 = v :: (s.pullAll n).1 := by
  rw [State.pullAll_eq, State.pullAll_eq, List.range_succ_eq_map, List.map_cons, List.map_map]
  have hsp : s.sp - 1 + 1 = s.sp := by bv_omega
  refine List.cons_eq_cons.2 ⟨?_, List.map_congr_left fun k hk => ?_⟩
  · simp [State.read_push]
  · have hk := List.mem_range.1 hk
    have hne : s.sp + BitVec.ofNat 8 (k + 1) ≠ s.sp := by bv_omega
    have hshift : s.sp + BitVec.ofNat 8 (k + 1) = s.sp + 1 + BitVec.ofNat 8 k := by bv_omega
    rw [Function.comp_apply, State.push_sp, hsp, State.read_push, if_neg fun h => hne (stackAddress_inj h), hshift]

theorem State.pullAll_pushAll (s : State) (vs : List Byte) (hlen : vs.length ≤ 256) :
    ((s.pushAll vs).pullAll vs.length).1 = vs.reverse := by
  induction vs using List.reverseRecOn with
  | nil => rfl
  | append_singleton vs v ih =>
    rw [List.length_append, List.length_singleton] at hlen
    rw [State.pushAll_concat, List.length_append, List.length_singleton, State.pullAll_push _ _ hlen,
      ih (by omega), List.reverse_concat]

/-- Settles O57: the last byte pushed is the first pulled, and the pulls before the wrap do not see it again; sp is lowered
and raised by the number of bytes. -/
theorem stackReturnsPushedBytesInReverse : Obligations.StackReturnsPushedBytesInReverse := by
  intro s vs hlen
  refine ⟨s.pullAll_pushAll vs hlen, ?_⟩
  rw [State.pullAll_sp, State.pushAll_sp, BitVec.sub_add_cancel]

/-! ## The pushing instructions and RTS -/

theorem exec_pha (s : State) : exec .pha s = .next ((s.past .imp).push s.A) := rfl

theorem exec_pha_or_php {s t : State} (h : exec .pha s = .next t ∨ exec .php s = .next t) :
    ∃ v, t = (s.past .imp).push v := by
  rcases h with h | h
  · exact ⟨s.A, by simpa [exec_pha] using h.symm⟩
  · exact ⟨packFlags s.flags, by simpa [exec_php] using h.symm⟩

theorem exec_jsr (lo hi : Byte) (s : State) :
    exec (.jsr lo hi) s = .next ((s.advance 3).jsr (int16 lo hi)) := rfl

theorem exec_rts (s : State) : exec .rts s = .next { s with
    pc := int16 (s.read (stackAddress (s.sp + 1 + 1))) (s.read (stackAddress (s.sp + 1)))
    sp := s.sp + 1 + 1 } := rfl

@[simp] theorem State.jsr_A (s : State) (a : Address) : (s.jsr a).A = s.A := by simp [State.jsr]
@[simp] theorem State.jsr_X (s : State) (a : Address) : (s.jsr a).X = s.X := by simp [State.jsr]
@[simp] theorem State.jsr_Y (s : State) (a : Address) : (s.jsr a).Y = s.Y := by simp [State.jsr]
@[simp] theorem State.jsr_flags (s : State) (a : Address) : (s.jsr a).flags = s.flags := by simp [State.jsr]
@[simp] theorem State.jsr_run (s : State) (a : Address) : (s.jsr a).run = s.run := by simp [State.jsr]
@[simp] theorem State.jsr_sp (s : State) (a : Address) : (s.jsr a).sp = s.sp - 2 := by
  rw [State.jsr, State.jump_sp, State.push_sp, State.push_sp]
  bv_omega

theorem stackAddress_pred_ne (sp : Byte) : stackAddress (sp - 1) ≠ stackAddress sp := by
  intro h
  have := stackAddress_inj h
  bv_omega

/-- What a call writes: the low byte of pc at the stack top, the high byte below it, no other (R50; decision D8). -/
theorem State.read_jsr (s : State) (a b : Address) : (s.jsr a).read b =
    if b = stackAddress s.sp then lowByte s.pc
    else if b = stackAddress (s.sp - 1) then highByte s.pc else s.read b := by
  have hread : (s.jsr a).read b = ((s.push (lowByte s.pc)).push (highByte s.pc)).read b := rfl
  rw [hread, State.read_push, State.read_push, State.push_sp]
  by_cases hb : b = stackAddress s.sp
  · rw [hb, if_neg (stackAddress_pred_ne _).symm, if_pos rfl, if_pos rfl]
  · rw [if_neg hb, if_neg hb]

/-- Settles O50: `State.read_push` and `State.read_jsr` off the stack bytes; the other fields are as the two operations
leave them. -/
theorem pushesWriteOnlyTheStackTop : Obligations.PushesWriteOnlyTheStackTop := by
  intro s t
  refine ⟨fun h => ?_, fun lo hi h => ?_⟩
  · obtain ⟨v, rfl⟩ := exec_pha_or_php h
    exact ⟨fun a ha => (State.read_push _ v a).trans (if_neg ha), rfl, rfl, rfl, rfl, rfl, rfl⟩
  · rw [exec_jsr] at h
    cases h
    refine ⟨fun a ha ha' => ?_, by simp, by simp, by simp, by simp, by simp, State.jsr_sp _ _⟩
    rw [State.read_jsr]
    exact (if_neg ha).trans (if_neg ha')

/-- Settles O58: the two pulls read the bytes of the pushed address in the other order. -/
theorem returnGoesToTheInstructionAfterTheCall : Obligations.ReturnGoesToTheInstructionAfterTheCall := by
  intro lo hi s t u h hsp hlow hhigh
  rw [exec_jsr] at h
  cases h
  have hone : u.sp + 1 = s.sp - 1 := by
    rw [hsp, State.jsr_sp, State.advance_sp]
    bv_omega
  have htwo : s.sp - 1 + 1 = s.sp := BitVec.sub_add_cancel _ _
  have hlow : u.read (stackAddress s.sp) = lowByte (s.pc + 3) := by
    rwa [State.read_jsr, State.advance_sp, if_pos rfl] at hlow
  have hhigh : u.read (stackAddress (s.sp - 1)) = highByte (s.pc + 3) := by
    rwa [State.read_jsr, State.advance_sp, if_neg (stackAddress_pred_ne _), if_pos rfl] at hhigh
  rw [exec_rts, hone, htwo, hlow, hhigh, int16_bytes]

/-! ## The instructions that leave memory alone -/

/-- An effect leaves memory alone, or its mnemonics are those that store or push, or it is a shift of memory. -/
theorem Effect.apply_mem (e : Effect) (u : State) :
    (e.apply u).mem = u.mem ∨ e.mnemonics ⊆ [.STA, .STX, .STY, .INC, .DEC, .PHA, .PHP, .JSR] ∨
      ∃ a v c, e = .shiftMem a v c := by
  cases e with
  | branch cond a => exact .inl (State.branch_mem u cond a)
  | store | storeResult | push | pushFlags | call => exact .inr (.inl (by simp))
  | shiftMem a v c => exact .inr (.inr ⟨a, v, c, rfl⟩)
  | _ => exact .inl rfl

theorem exec_shift_imp_mem {i : Instr} {m : Mnemonic} {s t : State} (hf : i.form = some (m, .imp))
    (hm : m ∈ [.ASL, .LSR, .ROL, .ROR]) (h : exec i s = .next t) : t.mem = s.mem := by
  rcases form_shift_imp hf hm with rfl | rfl | rfl | rfl <;> (cases h; rfl)

/-- Settles O48: halts keep memory; an effect that writes it belongs to a storing or pushing mnemonic or to a shift, and a
shift without an operand is of A. -/
theorem onlyStoringFormsWriteMemory : Obligations.OnlyStoringFormsWriteMemory := by
  intro i s t h hstore hshift
  refine State.read_congr ?_
  rcases exec_effect h with ⟨_, reason, rfl⟩ | ⟨m, o, e, hf, ⟨hm, _⟩, ht⟩
  · rfl
  · rcases e.apply_mem (s.past o) with hmem | hwriters | ⟨a, v, c, rfl⟩
    · exact ht ▸ hmem
    · exact (hstore ((isOneOf_iff_of_form hf _).2 (hwriters hm))).elim
    · cases o with
      | imp => exact exec_shift_imp_mem hf hm h
      | ref r => exact (hshift m r hf hm).elim

/-! ## The byte each shift computes, as arithmetic (R161 to R164) -/

theorem shiftLeft_one_eq (b : Byte) : b <<< 1 = BitVec.ofNat 8 (2 * b.toNat) := by
  apply BitVec.eq_of_toNat_eq
  simp [Nat.shiftLeft_eq, Nat.mul_comm]

theorem shiftRight_one_eq : ∀ b : Byte, b >>> 1 &&& 0x7F = BitVec.ofNat 8 (b.toNat / 2) := by decide

theorem rotateLeft_eq : ∀ (b : Byte) (c : Bool), b <<< 1 ||| bitByte c = BitVec.ofNat 8 (2 * b.toNat + c.toNat) := by
  decide

theorem rotateRight_eq : ∀ (b : Byte) (c : Bool),
    b >>> 1 ||| bitByte c <<< 7 = BitVec.ofNat 8 (b.toNat / 2 + 128 * c.toNat) := by
  decide

/-! ## The next fetch after a write (R63) -/

/-- The fetch decodes the three bytes at pc, whatever is known of the bytes. -/
theorem State.fetch_of_read {t : State} {byte : Address → Byte} (h : ∀ a, t.read a = byte a) :
    t.fetch = decodeOp (byte t.pc) (byte (t.pc + 1)) (byte (t.pc + 2)) := by
  simp only [State.fetch, h]

/-- An instruction whose handler goes to the next instruction and stores `v` at the effective address. -/
theorem exec_stores {i : Instr} {m : Mnemonic} {r : Ref} {s t u : State} {v : Byte} (h : exec i s = .next t)
    (hf : i.form = some (m, .ref r)) (hm : m ≠ .RTI) (hu : handled defaultConfig m (.ref r) s = some u)
    (hpc : u.pc = nextPc (.ref r) s) (hmem : u.mem = Memory.write s.mem (effectiveAddress r s) v) :
    t.pc = nextPc (.ref r) s ∧ ∀ a, t.read a = if a = effectiveAddress r s then v else s.read a := by
  obtain rfl : u = t := by simpa [exec_of_handled hf hu hm] using h
  exact ⟨hpc, fun a => (congrArg (Memory.read · a) hmem).trans (Memory.read_write _ _ _ _)⟩

/-- Settles O60: the state after each of the writing instructions reads the byte it wrote where it wrote it and as before
elsewhere, and the fetch depends on these reads alone. -/
theorem storeIntoCodeIsSeenByTheNextFetch : Obligations.StoreIntoCodeIsSeenByTheNextFetch := by
  refine ⟨fun i r s t v h hv => ?_, fun i s t v h hv => ?_, fun lo hi s t h => ?_⟩
  · suffices hs : t.pc = nextPc (.ref r) s ∧ ∀ a, t.read a = if a = effectiveAddress r s then v else s.read a from
      hs.imp_right State.fetch_of_read
    rcases hv with ⟨hf, rfl⟩ | ⟨hf, rfl⟩ | ⟨hf, rfl⟩ | ⟨hf, rfl⟩ | ⟨hf, rfl⟩ | ⟨hf, rfl⟩ | ⟨hf, rfl⟩ | ⟨hf, rfl⟩ |
      ⟨hf, rfl⟩
    · exact exec_stores h hf (by decide) rfl rfl rfl
    · exact exec_stores h hf (by decide) rfl rfl rfl
    · exact exec_stores h hf (by decide) rfl rfl rfl
    · exact exec_stores h hf (by decide) rfl rfl (narrow_inc _ ▸ rfl)
    · exact exec_stores h hf (by decide) rfl rfl (narrow_dec _ ▸ rfl)
    · exact exec_stores h hf (by decide) rfl rfl (shiftLeft_one_eq _ ▸ rfl)
    · exact exec_stores h hf (by decide) rfl rfl (shiftRight_one_eq _ ▸ rfl)
    · exact exec_stores h hf (by decide) rfl rfl (rotateLeft_eq _ _ ▸ rfl)
    · exact exec_stores h hf (by decide) rfl rfl (rotateRight_eq _ _ ▸ rfl)
  · rcases hv with ⟨rfl, rfl⟩ | ⟨rfl, rfl⟩
    · rw [exec_pha] at h
      cases h
      exact ⟨rfl, State.fetch_of_read (State.read_push _ _)⟩
    · rw [exec_php] at h
      cases h
      exact ⟨rfl, State.fetch_of_read (State.read_push _ _)⟩
  · rw [exec_jsr] at h
    cases h
    exact ⟨rfl, State.fetch_of_read (State.read_jsr _ _)⟩

end Sys2Proof.Machine
end

section
/-!
PROOFS. The decoder and the encoder (30_encoding.md sections 1, 2 and 5): the two round trips, the bytes without an entry,
the length of an instruction.
-/

namespace Sys2Proof

open Machine (undocumentedBytes)

/-! ## Decoding and encoding (R70, R92) -/

section
variable {i : Instr} (hwf : i.wellFormed = true)
include hwf

/-! The row of the decoder at an instruction's opcode byte builds the instruction: one lemma per format of R70. -/

theorem decodeOp_of_operandBytes_nil (h : i.operandBytes = []) (b1 b2 : Byte) : decodeOp i.opcode b1 b2 = some i := by
  cases i with
  | jmpInd lo hi => cases hwf
  | _ => cases h <;> rfl

theorem decodeOp_of_operandBytes_single {b1 : Byte} (h : i.operandBytes = [b1]) (b2 : Byte) :
    decodeOp i.opcode b1 b2 = some i := by
  cases i with
  | jmpInd lo hi => cases hwf
  | _ => cases h <;> rfl

theorem decodeOp_of_operandBytes_pair {b1 b2 : Byte} (h : i.operandBytes = [b1, b2]) :
    decodeOp i.opcode b1 b2 = some i := by
  cases i with
  | jmpInd lo hi => cases hwf
  | _ => cases h <;> rfl

theorem operandBytes_length_le : i.operandBytes.length ≤ 2 := by
  obtain ⟨⟨m, o⟩, hf⟩ := Option.isSome_iff_exists.1 hwf
  rw [operandBytes_of_form hf]
  exact bytes_length_le o

theorem decodeOp_encode (rest : List Byte) :
    decodeOp i.opcode ((i.operandBytes ++ rest).getD 0 0) ((i.operandBytes ++ rest).getD 1 0) = some i := by
  have hlen := operandBytes_length_le hwf
  rcases h : i.operandBytes with _ | ⟨b1, _ | ⟨b2, _ | ⟨b3, bs⟩⟩⟩
  · exact decodeOp_of_operandBytes_nil hwf h _ _
  · exact decodeOp_of_operandBytes_single hwf h _
  · exact decodeOp_of_operandBytes_pair hwf h
  · simp [h] at hlen

end

section
variable {op : Byte} {tail rest : List Byte} {i : Instr}

theorem decode_cons_of_none (h : decodeOp op (tail.getD 0 0) (tail.getD 1 0) = none) :
    decode (op :: tail) = .error (.unknownOpcode op) := by
  simp only [decode, h]

theorem decode_cons_of_some (h : decodeOp op (tail.getD 0 0) (tail.getD 1 0) = some i) :
    decode (op :: tail) = if i.operandBytes.length ≤ tail.length then .ok (i, tail.drop i.operandBytes.length)
      else .error .truncated := by
  have hfits : i.length ≤ tail.length + 1 ↔ i.operandBytes.length ≤ tail.length := by
    rw [Instr.length]; omega
  have hdrop : i.length - 1 = i.operandBytes.length := Nat.add_sub_cancel_left 1 _
  simp only [decode, h, hfits, hdrop]

/-- A byte string decodes to the instruction the decoder reads from its first three bytes, if its operand bytes are there;
the rest is what follows them. -/
theorem decode_cons_eq_ok_iff :
    decode (op :: tail) = .ok (i, rest) ↔ decodeOp op (tail.getD 0 0) (tail.getD 1 0) = some i ∧
      i.operandBytes.length ≤ tail.length ∧ tail.drop i.operandBytes.length = rest := by
  cases h : decodeOp op (tail.getD 0 0) (tail.getD 1 0) with
  | none => simp [decode_cons_of_none h]
  | some j =>
    rw [decode_cons_of_some h]
    constructor
    · intro hdec
      split at hdec <;> cases hdec
      exact ⟨rfl, ‹_›, rfl⟩
    · rintro ⟨⟨⟩, hfits, rfl⟩
      exact if_pos hfits

end

/-- Settles O1: the decoder reads the instruction back from its opcode byte, and drops as many bytes after it as the encoder
wrote. -/
theorem decodeOfEncodeIsTheInstruction : Obligations.DecodeOfEncodeIsTheInstruction := by
  intro i rest hwf
  exact decode_cons_eq_ok_iff.2 ⟨decodeOp_encode hwf rest, by simp, by simp⟩

/-- What the decoder takes of the two bytes it looks at are the bytes that follow the opcode byte, if they are there. -/
theorem take_getD_pair {n : Nat} {tail : List Byte} (hn : n ≤ 2) (h : n ≤ tail.length) :
    [tail.getD 0 0, tail.getD 1 0].take n = tail.take n := by
  match n, tail with
  | 0, _ => rfl
  | 1, _ :: _ => rfl
  | 2, _ :: _ :: _ => rfl

/-- Settles O2: a decoded instruction has the opcode byte read and takes its operand bytes from the bytes after it
(`decodeOp_some`). -/
theorem encodeOfDecodeIsTheBytes : Obligations.EncodeOfDecodeIsTheBytes := by
  intro bs i rest h
  cases bs with
  | nil => cases h
  | cons op tail =>
    obtain ⟨hdec, hfits, rfl⟩ := decode_cons_eq_ok_iff.1 h
    obtain ⟨rfl, hwf, hbytes⟩ := decodeOp_some hdec
    rw [Instr.length, Nat.add_sub_cancel_left, take_getD_pair (operandBytes_length_le hwf) hfits] at hbytes
    refine ⟨hwf, congrArg (i.opcode :: ·) ?_⟩
    calc tail
      _ = tail.take i.operandBytes.length ++ tail.drop i.operandBytes.length := (List.take_append_drop _ _).symm
      _ = i.operandBytes ++ tail.drop i.operandBytes.length := by rw [← hbytes]

/-! ## The bytes without an entry (R89, R90) -/

theorem not_mem_decodeRows_opcodes_iff : ∀ op : Byte,
    op ∉ decodeRows.map DecodeRow.opcode ↔ op ∈ undocumentedBytes ∨ op = 0x6C := by
  decide

/-- Settles O4: the 150 bytes of the decoder's rows and the 106 bytes without an entry are complementary. -/
theorem decodeRefusesExactlyTheUnlistedBytes : Obligations.DecodeRefusesExactlyTheUnlistedBytes :=
  fun op b1 b2 => (decodeOp_eq_none_iff op b1 b2).trans (not_mem_decodeRows_opcodes_iff op)

/-! ## The length of an instruction (R74) -/

theorem encode_length_of_form {i : Instr} {m : Mnemonic} {o : Operand} (h : i.form = some (m, o)) :
    (encode i).length = 1 + o.bytes.length := by
  rw [encode, List.length_cons, operandBytes_of_form h, Nat.add_comm]

/-- The operand bytes each mode takes, with the opcode byte before them (R74). -/
theorem Mode.operand_length (mode : Mode) (b1 b2 : Byte) : 1 + (mode.operand b1 b2).bytes.length =
    if mode = .imp then 1 else if mode = .abs ∨ mode = .abx ∨ mode = .aby then 3 else 2 := by
  cases mode <;> rfl

/-- Settles O5: the entry is `decodeOp_entry`, and its mode fixes the operand and so the length. -/
theorem lengthIsFixedByTheOpcodeByte : Obligations.LengthIsFixedByTheOpcodeByte := by
  intro op b1 b2 i h
  obtain ⟨m, mode, hentry, hform⟩ := decodeOp_entry h
  exact ⟨m, mode, hentry, hform, (encode_length_of_form hform).trans (mode.operand_length b1 b2)⟩

end Sys2Proof
end

section
/-!
PROOFS. The halts the resolver and the table can cause (R87, R90, R211, R217), under the default configuration and under
any other.
-/

namespace Sys2Proof.Machine

/-! ## The default configuration -/

theorem isOneOf_brk_rti {i : Instr} (h : i.isOneOf [.BRK, .RTI]) : i = .brk ∨ i = .rti := by
  obtain ⟨m, hm, o, hf⟩ := h
  cases i with
  | brk => exact .inl rfl
  | rti => exact .inr rfl
  | _ => cases hf <;> simp at hm

/-- Settles O11: a decoded instruction is well-formed, and of these only BRK and RTI write the run state
(`registersChangeOnlyByTheirWriters`). -/
theorem defaultEngineHaltsOnlyThreeWays : Obligations.DefaultEngineHaltsOnlyThreeWays := by
  intro s t reason h ht
  cases hr : s.run with
  | halted r => simp [step_of_halted hr] at h
  | running =>
    cases hf : s.fetch with
    | none =>
      rw [step_of_fetch_none hr hf] at h
      cases h
      cases ht
      exact .inr (.inl ⟨rfl, (decodeRefusesExactlyTheUnlistedBytes _ _ _).1 hf⟩)
    | some i =>
      rw [step_of_fetch_some hr hf] at h
      obtain ⟨hop, hwf, _⟩ := decodeOp_some hf
      obtain ⟨_, _, _, _, hrun⟩ := registersChangeOnlyByTheirWriters i s t h
      have hi : i.isOneOf [.BRK, .RTI] := (hrun (by simp [ht, hr])).resolve_right (by simp [hwf])
      rcases isOneOf_brk_rti hi with rfl | rfl
      · cases h
        cases ht
        exact .inl ⟨rfl, hop.symm⟩
      · cases h
        cases ht
        exact .inr (.inr ⟨rfl, hop.symm⟩)

/-! ## Any accepted configuration -/

/-- Settles O14: the byte has no entry, since every row of it is excluded. -/
theorem absentEntryHaltsUnderAnyTable : Obligations.AbsentEntryHaltsUnderAnyTable := by
  intro c s hc hr habsent
  refine stepWith_of_entry_none hc hr ((c.entry_eq_none_iff _).2 fun hmem => ?_)
  obtain ⟨row, hrow, hop⟩ := List.mem_map.1 hmem
  obtain ⟨hrow, hkept⟩ := List.mem_filter.1 hrow
  simp [habsent row hrow hop] at hkept

theorem stepWith_of_entry_unrecognised {c : Config} {s : State} {m : Mnemonic} {code : ModeCode}
    (hc : c.accepted = true) (hr : s.run = .running) (he : c.entry (s.read s.pc) = some (m, code))
    (hcode : ∀ mode, code ≠ .known mode) : stepWith c s = .next (s.raise (.invalidAddressingMode code s.pc)) := by
  cases code with
  | known mode => exact (hcode mode rfl).elim
  | ind | other n => simp [stepWith, hc, hr, he]

/-- Settles O15: the resolver refuses the code before the mnemonic counts. -/
theorem unrecognisedModeHaltsFirst : Obligations.UnrecognisedModeHaltsFirst :=
  fun _ _ _ _ hc hr he hcode => stepWith_of_entry_unrecognised hc hr he hcode

/-- Settles O19: the default table's own row of 0x6C is excluded, so the added row is its entry where there is one. -/
theorem indirectJumpUnderBothTables : Obligations.IndirectJumpUnderBothTables := by
  intro s hr hbyte
  constructor
  · exact stepWith_of_entry_unrecognised (m := .JMP) rfl hr (by rw [hbyte]; rfl) nofun
  · have he : defaultConfig.entry (s.read s.pc) = none := by rw [hbyte]; rfl
    rw [stepWith_of_entry_none defaultConfig_accepted hr he, State.rejectOpcode, hbyte]
    rfl

end Sys2Proof.Machine
end

section
/-!
PROOFS. Effective addresses as arithmetic (R77 to R86).
-/

namespace Sys2Proof.Machine

theorem zext16_eq_ofNat (b : Byte) : zext16 b = BitVec.ofNat 16 b.toNat :=
  (BitVec.ofNat_toNat 16 b).symm

theorem add_zext16_toNat (a : Address) (b : Byte) : (a + zext16 b).toNat = (a.toNat + b.toNat) % 65536 := by
  rw [BitVec.toNat_add, zext16_toNat]

theorem zext16_add_toNat (a b : Byte) : (zext16 a + zext16 b).toNat = a.toNat + b.toNat := by
  have := a.isLt
  have := b.isLt
  rw [add_zext16_toNat, zext16_toNat]
  omega

/-- `sext_16` (R9) as the spec writes it. -/
theorem sext16_toInt_eq (o : Byte) :
    (sext16 o).toInt = if o.toNat < 0x80 then (o.toNat : Int) else o.toNat - 256 := by
  rw [sext16_toInt, BitVec.toInt_eq_toNat_cond]
  split <;> split <;> omega

/-- Settles O26: two bytes add up to less than 65536. -/
theorem zeroPageAndAbsoluteAddressesAreExact : Obligations.ZeroPageAndAbsoluteAddressesAreExact :=
  fun b lo hi s => ⟨zext16_toNat b, zext16_add_toNat b s.X, zext16_add_toNat b s.Y, int16_toNat lo hi⟩

theorem int16_add_zext16_toNat (lo hi b : Byte) :
    (int16 lo hi + zext16 b).toNat = (lo.toNat + hi.toNat * 256 + b.toNat) % 65536 := by
  rw [add_zext16_toNat, int16_toNat]

/-- Settles O27: both are the sum of an address and a byte. -/
theorem indexedAbsoluteFormsWrapAt65536 : Obligations.IndexedAbsoluteFormsWrapAt65536 :=
  fun lo hi s => ⟨int16_add_zext16_toNat lo hi s.X, int16_add_zext16_toNat lo hi s.Y⟩

/-- Settles O28: a pointer is two bytes little-endian, read at the 16-bit sums of the zero-extended bytes. -/
theorem pointerFormsReadPastTheZeroPage : Obligations.PointerFormsReadPastTheZeroPage := by
  intro b s
  simp only [BitVec.ofNat_add, ← zext16_eq_ofNat]
  exact ⟨int16_toNat _ _, int16_add_zext16_toNat _ _ _⟩

theorem effectiveAddress_rel_toNat (o : Byte) (s : State) : ((effectiveAddress (.rel o) s).toNat : Int) =
    ((s.pc.toNat : Int) + 2 + (sext16 o).toInt) % 65536 := by
  have hsum : (effectiveAddress (.rel o) s).toNat = ((s.pc.toNat + 2) % 65536 + (sext16 o).toNat) % 65536 := by
    rw [effectiveAddress, BitVec.toNat_add, BitVec.toNat_add]
    rfl
  rw [hsum, BitVec.toInt_eq_toNat_cond]
  split <;> omega

/-- The byte after the opcode of an immediate instruction is its operand (R78). -/
theorem read_of_holds_imm {i : Instr} {m : Mnemonic} {b : Byte} {s : State} (hf : i.form = some (m, .ref (.imm b)))
    (hs : s.holds (encode i)) : s.read (s.pc + 1) = b := by
  refine hs 1 b ?_
  rw [encode, operandBytes_of_form hf]
  rfl

/-- Settles O29: the target in integers, and the immediate operand as a byte of the instruction and of memory. -/
theorem relativeAndImmediateForms : Obligations.RelativeAndImmediateForms := by
  refine fun b s => ⟨?_, rfl, rfl, fun i m hf hs => read_of_holds_imm hf hs⟩
  rw [effectiveAddress_rel_toNat, sext16_toInt_eq]

end Sys2Proof.Machine
end

section
/-!
PROOFS. The dispatch (40_dispatch.md section 1, R100 to R105): which instruction a step runs, where it leaves pc, and what an
address class means under any accepted configuration.
-/

namespace Sys2Proof.Machine

/-! ## The fetch (R100) -/

/-- The decoder reads back an instruction whose bytes lie at pc, whatever lies after them. -/
theorem fetch_of_holds {i : Instr} {s : State} (hwf : i.wellFormed = true) (hs : s.holds (encode i)) :
    s.fetch = some i := by
  have hop : s.read s.pc = i.opcode := by simpa using hs 0 i.opcode rfl
  have hread (k : Nat) (b : Byte) (hb : i.operandBytes[k]? = some b) : s.read (s.pc + BitVec.ofNat 16 (k + 1)) = b :=
    hs (k + 1) b hb
  have hlen := operandBytes_length_le hwf
  rw [State.fetch, hop]
  rcases h : i.operandBytes with _ | ⟨b1, _ | ⟨b2, _ | ⟨b3, bs⟩⟩⟩ <;> rw [h] at hread hlen
  · exact decodeOp_of_operandBytes_nil hwf h _ _
  · rw [show s.read (s.pc + 1) = b1 from hread 0 b1 rfl]
    exact decodeOp_of_operandBytes_single hwf h _
  · rw [show s.read (s.pc + 1) = b1 from hread 0 b1 rfl, show s.read (s.pc + 2) = b2 from hread 1 b2 rfl]
    exact decodeOp_of_operandBytes_pair hwf h
  · simp at hlen

/-- Settles O6: the fetch finds the instruction. -/
theorem stepRunsTheDecodedInstruction : Obligations.StepRunsTheDecodedInstruction :=
  fun _ _ hr hwf hs => step_of_fetch_some hr (fetch_of_holds hwf hs)

/-! ## The next instruction in sequence (R101) -/

/-- The mnemonics whose handler may write pc (R48 to R51). -/
def pcWriters : List Mnemonic :=
  [.JMP, .JSR, .RTS, .BCC, .BCS, .BEQ, .BNE, .BMI, .BPL, .BVC, .BVS]

/-- An effect leaves pc alone, or its mnemonics transfer control. -/
theorem Effect.apply_pc (e : Effect) (u : State) : (e.apply u).pc = u.pc ∨ e.mnemonics ⊆ pcWriters := by
  cases e with
  | branch | call | ret => simp [pcWriters]
  | _ => exact .inl rfl

/-- A handler that transfers no control leaves pc past the operand bytes. -/
theorem handled_pc {c : Config} {m : Mnemonic} {o : Operand} {s t : State} (hm : m ∉ pcWriters)
    (h : handled c m o s = some t) : t.pc = nextPc o s := by
  obtain ⟨e, ⟨hme, _⟩, rfl, _⟩ := handled_hasEffect h
  exact (e.apply_pc _).resolve_right fun hsub => hm (hsub hme)

/-- Settles O12: RTI apart, `exec` is a handler. -/
theorem sequentialPcUnlessControlTransfer : Obligations.SequentialPcUnlessControlTransfer := by
  intro i m o s t hf hm h
  obtain ⟨hpc, hrti⟩ : m ∉ pcWriters ∧ m ∉ [Mnemonic.RTI] := not_or.1 (mt List.mem_append.2 hm)
  rcases exec_cases hf h with ⟨rfl, _⟩ | hh
  · exact (hrti (List.mem_singleton_self _)).elim
  · exact handled_pc hpc hh

/-! ## The address classes (R105) -/

theorem perform_of_missing_address {c : Config} {m : Mnemonic} {op : Ref → State → State} (hm : m ∉ c.unimplemented)
    (hc : catalogue c m = .needsAddress op) (s : State) :
    perform c m .imp s = .next (s.raise (.invalidAddressingMode (.known .imp) s.pc)) := by
  simp [perform, hm, hc]

theorem handled_of_ignoresAddress {c : Config} {m : Mnemonic} {op : Operand → State → State}
    (hc : catalogue c m = .ignoresAddress op) (o : Operand) (s : State) : handled c m o s = some (op o s) := by
  simp [handled, hc]

/-- Settles O17: the class of each of the 27 mnemonics is NEEDS_ADDRESS, and the Implicit mode resolves to no address. -/
theorem missingAddressHalts : Obligations.MissingAddressHalts := by
  intro c s m hc hr he hm hmem
  obtain ⟨op, hcat⟩ : ∃ op, catalogue c m = .needsAddress op := by
    fin_cases hmem <;> exact ⟨_, rfl⟩
  rw [stepWith_of_entry_known hc hr he]
  exact perform_of_missing_address hm hcat s

/-- Settles O18: the class of each of the 23 mnemonics is IGNORES_ADDRESS, and none of them writes pc. -/
theorem ignoredOperandBytesAreConsumed : Obligations.IgnoredOperandBytesAreConsumed := by
  intro c s m mode hc hr he hm hmem
  obtain ⟨⟨op, hcat⟩, hpc⟩ : (∃ op, catalogue c m = .ignoresAddress op) ∧ m ∉ pcWriters := by
    fin_cases hmem <;> exact ⟨⟨_, rfl⟩, by decide⟩
  have hh := handled_of_ignoresAddress hcat (mode.operand (s.read (s.pc + 1)) (s.read (s.pc + 2))) s
  refine ⟨_, (stepWith_of_entry_known hc hr he).trans (perform_of_handled hm hh), ?_⟩
  rw [handled_pc hpc hh, nextPc, Mode.operand_length]
  split
  · rfl
  · split <;> rfl

end Sys2Proof.Machine
end

section
/-!
PROOFS. The bounded run and the run without a ceiling (R106, R107, R226; log 13).
-/

namespace Sys2Proof.Machine

/-! ## A RUNNING engine steps (R215, R219) -/

theorem catalogue_eq_absent_iff (c : Config) (m : Mnemonic) : catalogue c m = .absent ↔ m = .RTI := by
  cases m <;> simp [catalogue]

/-- An accepted configuration leaves RTI unimplemented, so `perform` always answers a next state. -/
theorem perform_next {c : Config} (hc : c.accepted = true) (m : Mnemonic) (o : Operand) (s : State) :
    ∃ t, perform c m o s = .next t := by
  unfold perform
  split
  · exact ⟨_, rfl⟩
  · rename_i hm
    cases hk : catalogue c m with
    | needsAddress op => cases o <;> exact ⟨_, rfl⟩
    | either op | ignoresAddress op => exact ⟨_, rfl⟩
    | absent => exact (hm ((catalogue_eq_absent_iff c m).1 hk ▸ hc)).elim

theorem stepWith_next_of_running {c : Config} {s : State} (hc : c.accepted = true) (hr : s.run = .running) :
    ∃ t, stepWith c s = .next t := by
  cases he : c.entry (s.read s.pc) with
  | none => exact ⟨_, stepWith_of_entry_none hc hr he⟩
  | some entry =>
    obtain ⟨m, code⟩ := entry
    cases code with
    | known mode =>
      rw [stepWith_of_entry_known hc hr he]
      exact perform_next hc _ _ _
    | ind | other n => exact ⟨_, stepWith_of_entry_unrecognised hc hr he nofun⟩

/-! ## The bounded run, case by case -/

section
variable {c : Config} {s t : State} {reason : HaltReason}

theorem runFor_succ_of_next (h : stepWith c s = .next t) (k : Nat) : runFor c (k + 1) s = runFor c k t := by
  simp [runFor, h]

theorem runFor_zero_of_running (hr : s.run = .running) : runFor c 0 s = .stepLimit s := by
  simp [runFor, hr]

theorem runFor_of_halted (hc : c.accepted = true) (hr : s.run = .halted reason) (k : Nat) :
    runFor c k s = .ended s := by
  cases k with
  | zero => simp [runFor, hr]
  | succ k => simp [runFor, stepWith_of_halted hc hr]

end

/-! ## A run that ends (R107) -/

/-- Everything a bounded run that ends can be: of no step, or of a step and a run that ends. -/
theorem runFor_ended_cases {c : Config} {k : Nat} {s t : State} (h : runFor c k s = .ended t) :
    (t = s ∧ ∃ reason, s.run = .halted reason) ∨
    ∃ j u, k = j + 1 ∧ stepWith c s = .next u ∧ runFor c j u = .ended t := by
  cases k with
  | zero =>
    rw [runFor] at h
    split at h
    · cases h
    · cases h
      exact .inl ⟨rfl, _, ‹_›⟩
  | succ k =>
    rw [runFor] at h
    split at h
    · exact .inr ⟨k, _, rfl, ‹_›, h⟩
    · cases h
      obtain ⟨reason, hr, _⟩ := stepWith_fault ‹_›
      exact .inl ⟨rfl, reason, hr⟩
    · cases h

theorem halted_of_runFor_ended {c : Config} {k : Nat} {s t : State} (h : runFor c k s = .ended t) :
    ∃ reason, t.run = .halted reason := by
  induction k using Nat.strong_induction_on generalizing s with
  | h k ih =>
    rcases runFor_ended_cases h with ⟨rfl, hr⟩ | ⟨j, _, rfl, _, h⟩
    · exact hr
    · exact ih j j.lt_succ_self h

/-- A larger ceiling does not change a run that ends. -/
theorem runFor_ended_of_le {c : Config} (hc : c.accepted = true) {j k : Nat} {s t : State}
    (h : runFor c j s = .ended t) (hjk : j ≤ k) : runFor c k s = .ended t := by
  induction k generalizing j s with
  | zero => rwa [Nat.le_zero.1 hjk] at h
  | succ k ih =>
    rcases runFor_ended_cases h with ⟨rfl, _, hr⟩ | ⟨j, u, rfl, hstep, h⟩
    · exact runFor_of_halted hc hr _
    · rw [runFor_succ_of_next hstep]
      exact ih h (Nat.le_of_succ_le_succ hjk)

/-- Under an accepted configuration the larger ceiling decides; any other refuses the first step. -/
theorem runFor_ended_unique {c : Config} {j k : Nat} {s t u : State} (ht : runFor c j s = .ended t)
    (hu : runFor c k s = .ended u) : t = u := by
  cases hc : c.accepted with
  | true =>
    have ht := runFor_ended_of_le hc ht (le_max_left j k)
    rw [runFor_ended_of_le hc hu (le_max_right j k)] at ht
    cases ht
    rfl
  | false =>
    have hstay {n : Nat} {v : State} (h : runFor c n s = .ended v) : v = s := by
      rcases runFor_ended_cases h with ⟨rfl, _⟩ | ⟨_, _, _, hstep, _⟩
      · rfl
      · simp [(stepWith_cases hstep).1] at hc
    exact (hstay ht).trans (hstay hu).symm

section
variable {c : Config} {s : State} {out : RunOutcome}

theorem runOf_iff_of_ceiling {k : Nat} (hmax : c.maxSteps = some k) : RunOf c s out ↔ runFor c k s = out := by
  simp [RunOf, hmax]

theorem runOf_iff_of_no_ceiling (hmax : c.maxSteps = none) :
    RunOf c s out ↔ ∃ k t, runFor c k s = .ended t ∧ out = .ended t := by
  simp [RunOf, hmax]

end

/-- Settles O24: with a ceiling a run is a function; without one its outcome is a run that ends. -/
theorem runHasAtMostOneOutcome : Obligations.RunHasAtMostOneOutcome := by
  intro c s
  refine ⟨fun out out' h h' => ?_, fun hmax out h => ?_, fun hc _ _ _ h hjk => runFor_ended_of_le hc h hjk⟩
  · cases hmax : c.maxSteps with
    | some k => exact ((runOf_iff_of_ceiling hmax).1 h).symm.trans ((runOf_iff_of_ceiling hmax).1 h')
    | none =>
      obtain ⟨_, t, ht, rfl⟩ := (runOf_iff_of_no_ceiling hmax).1 h
      obtain ⟨_, t', ht', rfl⟩ := (runOf_iff_of_no_ceiling hmax).1 h'
      rw [runFor_ended_unique ht ht']
  · obtain ⟨_, t, ht, rfl⟩ := (runOf_iff_of_no_ceiling hmax).1 h
    obtain ⟨reason, hr⟩ := halted_of_runFor_ended ht
    exact ⟨t, reason, rfl, hr⟩

/-! ## Counted steps (R106) -/

/-- `ReachesIn` adds its steps at the end, a run takes them from the front. -/
theorem ReachesIn.head {k : Nat} {s t u : State} (hstep : step s = .next t) (h : ReachesIn k t u) :
    ReachesIn (k + 1) s u := by
  induction h with
  | zero => exact .succ (.zero s) hstep
  | succ _ hlast ih => exact .succ (ih hstep) hlast

/-- Settles O23, by induction on the ceiling: a HALTED state is an end without a step, a RUNNING one steps. -/
theorem boundedRunEndsHaltedOrAtTheLimit : Obligations.BoundedRunEndsHaltedOrAtTheLimit := by
  intro k
  induction k with
  | zero =>
    intro s
    cases hr : s.run with
    | running => exact .inr ⟨s, runFor_zero_of_running hr, .zero s, hr⟩
    | halted reason => exact .inl ⟨s, reason, 0, le_rfl, runFor_of_halted defaultConfig_accepted hr _, .zero s, hr⟩
  | succ k ih =>
    intro s
    cases hr : s.run with
    | halted reason =>
      exact .inl ⟨s, reason, 0, Nat.zero_le _, runFor_of_halted defaultConfig_accepted hr _, .zero s, hr⟩
    | running =>
      obtain ⟨u, hu⟩ := stepWith_next_of_running defaultConfig_accepted hr
      have hstep : step s = .next u := (stepIsTheParametricEngineAtDefaults s).trans hu
      rw [runFor_succ_of_next hu]
      rcases ih u with ⟨t, reason, j, hj, hrun, hreach, ht⟩ | ⟨t, hrun, hreach, ht⟩
      · exact .inl ⟨t, reason, j + 1, Nat.succ_le_succ hj, hrun, hreach.head hstep, ht⟩
      · exact .inr ⟨t, hrun, hreach.head hstep, ht⟩

end Sys2Proof.Machine
end

section
/-!
PROOFS. Load and store (41_load_store.md): the modes and opcode bytes of a mnemonic, the meaning of the loads and stores, and
the frame of every form that stores a byte at its effective address.
-/

namespace Sys2Proof

/-! ## The words of R111 to R201 -/

/-- Settles O3: each word is the encoding of its instruction, with what follows it as the rest. -/
theorem specWordsDecodeAsWritten : Obligations.SpecWordsDecodeAsWritten :=
  ⟨decodeOfEncodeIsTheInstruction (.ldaImm 0xAA) [] rfl,
    decodeOfEncodeIsTheInstruction (.staAbs 0x00 0x02) [0x00] rfl,
    decodeOfEncodeIsTheInstruction (.stxZpy 0xFF) [] rfl,
    decodeOfEncodeIsTheInstruction (.adcIzy 0x40) [] rfl,
    decodeOfEncodeIsTheInstruction (.sbcIzx 0x20) [] rfl,
    decodeOfEncodeIsTheInstruction (.incAbx 0x00 0x03) [] rfl,
    decodeOfEncodeIsTheInstruction .aslImp [0x0A] rfl,
    decodeOfEncodeIsTheInstruction (.jsr 0x00 0x07) [] rfl,
    decodeOfEncodeIsTheInstruction (.bne 0xFD) [] rfl,
    decodeOfEncodeIsTheInstruction .brk [] rfl,
    decodeOfEncodeIsTheInstruction .rti [] rfl⟩

/-! ## The modes and opcode bytes of a mnemonic (R72, R88) -/

/-- The mode and the opcode byte of a table row, if it is an entry of the mnemonic with a mode of R74. -/
def TableRow.encodingOf (m : Mnemonic) : TableRow → Option (Mode × Byte)
  | ⟨op, m', .known mode, false⟩ => if m' = m then some (mode, op) else none
  | _ => none

/-- The modes the default table has of a mnemonic, with their opcode bytes, in its order. -/
def Mnemonic.encodings (m : Mnemonic) : List (Mode × Byte) :=
  defaultTable.filterMap (TableRow.encodingOf m)

theorem Config.mem_opcodeTable_of_entry {c : Config} {op : Byte} {m : Mnemonic} {code : ModeCode}
    (h : c.entry op = some (m, code)) : ⟨op, m, code, false⟩ ∈ c.opcodeTable := by
  obtain ⟨row, found, heq⟩ := Option.map_eq_some_iff.1 h
  have hrow : row = ⟨op, m, code, false⟩ := by
    have := List.find?_some found
    cases row
    simp_all
  exact hrow ▸ List.mem_of_find?_eq_some found

theorem Mode.operand_mode (mode : Mode) (b1 b2 : Byte) : (mode.operand b1 b2).mode = mode := by
  cases mode <;> rfl

/-- The default table's entry at the opcode byte of an instruction is the one the instruction stands for: the decoder reads
the instruction back, and what it reads is the table's. -/
theorem entry_of_form {i : Instr} {m : Mnemonic} {o : Operand} (hf : i.form = some (m, o)) :
    defaultConfig.entry i.opcode = some (m, .known o.mode) := by
  have hwf : i.wellFormed = true := by simp [Instr.wellFormed, hf]
  obtain ⟨m', mode, hentry, hform⟩ := decodeOp_entry (decodeOp_encode hwf [])
  rw [hf] at hform
  cases hform
  rw [Mode.operand_mode]
  exact hentry

theorem mem_encodings_of_form {i : Instr} {m : Mnemonic} {o : Operand} (hf : i.form = some (m, o)) :
    (o.mode, i.opcode) ∈ m.encodings :=
  List.mem_filterMap.2 ⟨_, Config.mem_opcodeTable_of_entry (entry_of_form hf), if_pos rfl⟩

namespace Machine

/-! ## Loads and stores -/

/-- Settles O30: the pairs listed are the mnemonic's `encodings`, read off the default table, and its handler writes
`result` of the operand byte into the register. -/
theorem loadsSetRegisterAndZN : Obligations.LoadsSetRegisterAndZN :=
  fun _ _ _ =>
    ⟨fun hf => ⟨mem_encodings_of_form hf, exec_of_handled hf rfl nofun⟩,
      fun hf => ⟨mem_encodings_of_form hf, exec_of_handled hf rfl nofun⟩,
      fun hf => ⟨mem_encodings_of_form hf, exec_of_handled hf rfl nofun⟩⟩

/-- Settles O31: the pairs listed are the mnemonic's `encodings`, read off the default table, and its handler stores the
register at the effective address. -/
theorem storesWriteOneByteAndNoFlag : Obligations.StoresWriteOneByteAndNoFlag :=
  fun _ _ _ =>
    ⟨fun hf => ⟨mem_encodings_of_form hf, exec_of_handled hf rfl nofun⟩,
      fun hf => ⟨mem_encodings_of_form hf, exec_of_handled hf rfl nofun⟩,
      fun hf => ⟨mem_encodings_of_form hf, exec_of_handled hf rfl nofun⟩⟩

/-! ## The forms that store a byte at their effective address -/

/-- Everything a form that stores a byte at its effective address can do: a store, a stored result, or a shift of
memory. -/
theorem exec_storing_cases {i : Instr} {m : Mnemonic} {r : Ref} {s t : State} (hf : i.form = some (m, .ref r))
    (hm : m ∈ [.STA, .STX, .STY, .INC, .DEC, .ASL, .LSR, .ROL, .ROR]) (h : exec i s = .next t) :
    ∃ v, (m ∈ [.STA, .STX, .STY] ∧ t = (s.past (.ref r)).store (effectiveAddress r s) v) ∨
      (m ∈ [.INC, .DEC] ∧ t = (s.past (.ref r)).storeResult (effectiveAddress r s) v) ∨
      (m ∈ [.ASL, .LSR, .ROL, .ROR] ∧
        ∃ c, t = ((s.past (.ref r)).storeResult (effectiveAddress r s) v).setC c) := by
  have hh : handled defaultConfig m (.ref r) s = some t := by
    refine (exec_cases hf h).resolve_left ?_
    rintro ⟨rfl, _⟩
    simp at hm
  cases m with
  | STA | STX | STY =>
    cases hh
    exact ⟨_, .inl ⟨by simp, rfl⟩⟩
  | INC | DEC =>
    cases hh
    exact ⟨_, .inr (.inl ⟨by simp, rfl⟩)⟩
  | ASL | LSR | ROL | ROR =>
    cases hh
    exact ⟨_, .inr (.inr ⟨by simp, _, rfl⟩)⟩
  | _ => simp at hm

/-- Settles O49: of the three, a store writes no flag, a stored result only N and Z, a shift these and C. -/
theorem storingFormsWriteOnlyTheirByte : Obligations.StoringFormsWriteOnlyTheirByte := by
  intro i m r s t hf hm h
  obtain ⟨v, ⟨hm, rfl⟩ | ⟨hm, rfl⟩ | ⟨hm, c, rfl⟩⟩ := exec_storing_cases hf hm h
  · exact ⟨fun a ha => (State.read_store _ _ a v).trans (if_neg ha), rfl, rfl, rfl, rfl, rfl, rfl, rfl, rfl, rfl,
      fun _ => rfl, fun _ => rfl⟩
  · have hstore : m ∉ [Mnemonic.STA, .STX, .STY] := by fin_cases hm <;> decide
    exact ⟨fun a ha => (State.read_storeResult _ _ a v).trans (if_neg ha), rfl, rfl, rfl, rfl, rfl, rfl, rfl, rfl, rfl,
      fun h => (hstore h).elim, fun _ => rfl⟩
  · obtain ⟨hstore, hcount⟩ : m ∉ [Mnemonic.STA, .STX, .STY] ∧ m ∉ [Mnemonic.INC, .DEC] := by fin_cases hm <;> decide
    exact ⟨fun a ha => (State.read_storeResult _ _ a v).trans (if_neg ha), rfl, rfl, rfl, rfl, rfl, rfl, rfl, rfl, rfl,
      fun h => (hstore h).elim, fun h => (hcount h).elim⟩

end Machine

end Sys2Proof
end

section
/-!
PROOFS. Transfers and the stack instructions (42_transfer_stack.md).
-/

namespace Sys2Proof.Machine

/-- Settles O32: each handler moves pc past the opcode byte and writes its source; the writes to A, X and Y go through
`result`, TXS sets sp directly. -/
theorem transfersCopyTheirSource : Obligations.TransfersCopyTheirSource :=
  fun _ =>
    ⟨⟨rfl, exec_of_handled rfl rfl nofun⟩,
      ⟨rfl, exec_of_handled rfl rfl nofun⟩,
      ⟨rfl, exec_of_handled rfl rfl nofun⟩,
      ⟨rfl, exec_of_handled rfl rfl nofun⟩,
      ⟨rfl, exec_of_handled rfl rfl nofun⟩,
      ⟨rfl, exec_of_handled rfl rfl nofun⟩⟩

/-! ## The bits of the pushed status byte (R28) -/

/-- A packed byte has bit 5 clear, since packing its flags again masks that bit away and gives the same byte
(decision D4). -/
theorem packFlags_getLsbD_five (f : Flags) : (packFlags f).getLsbD 5 = false := by
  have hmask : packFlags f = packFlags f &&& 0xDF := by
    rw [← pack_unpack (packFlags f), unpack_pack]
  rw [hmask, BitVec.getLsbD_and]
  exact Bool.and_false _

/-- Each flag stands at the bit of the packed byte that `unpackFlags` reads it from. -/
theorem packFlags_getLsbD (f : Flags) :
    (packFlags f).getLsbD 7 = f.N ∧ (packFlags f).getLsbD 6 = f.V ∧ (packFlags f).getLsbD 5 = false ∧
      (packFlags f).getLsbD 4 = f.B ∧ (packFlags f).getLsbD 3 = f.D ∧ (packFlags f).getLsbD 2 = f.I ∧
      (packFlags f).getLsbD 1 = f.Z ∧ (packFlags f).getLsbD 0 = f.C :=
  have h := unpack_pack f
  ⟨congrArg Flags.N h, congrArg Flags.V h, packFlags_getLsbD_five f, congrArg Flags.B h, congrArg Flags.D h,
    congrArg Flags.I h, congrArg Flags.Z h, congrArg Flags.C h⟩

/-! ## Pushes and pulls -/

/-- Settles O33: both are `State.push` past the opcode byte, and the bits of the byte PHP pushes are those of
`packFlags`. -/
theorem pushesStoreAtTheStackTop : Obligations.PushesStoreAtTheStackTop :=
  fun s => ⟨⟨rfl, exec_pha s⟩, rfl, packFlags s.flags, exec_php s, packFlags_getLsbD s.flags⟩

theorem exec_pla (s : State) : exec .pla s = .next ((s.past .imp).pull.2.writeA (s.read (stackAddress (s.sp + 1)))) :=
  rfl

/-- Settles O34: the hypothesis names the byte `State.pull` reads; PLA writes it to A through `result`, PLP unpacks it. -/
theorem pullsReadAboveTheStackTop : Obligations.PullsReadAboveTheStackTop := by
  rintro s _ rfl
  exact ⟨⟨rfl, exec_pla s⟩, rfl, exec_plp s⟩

end Sys2Proof.Machine
end

section
/-!
PROOFS. Arithmetic, logic and compares (43_alu.md): what ADC, SBC and the compares compute, as plain arithmetic, and the
PRESERVE setting of ARITH_V.
-/

namespace Sys2Proof.Machine

/-! ## Narrowed results and two's-complement overflow (R21, R135, R136) -/

theorem bit_eq_toNat (f : Bool) : bit f = f.toNat := by
  cases f <;> rfl

theorem narrow_toNat (t : Int) : ((narrow t).toNat : Int) = t % 256 := by
  rw [narrow, BitVec.toNat_ofInt]
  omega

theorem narrow_natCast (t : Nat) : narrow t = BitVec.ofNat 8 t :=
  BitVec.ofInt_natCast 8 t

theorem narrow_bit7 (t : Int) : (narrow t).getLsbD 7 = decide (128 ≤ t % 256) := by
  rw [bit7_eq, decide_eq_decide, ← narrow_toNat]
  omega

theorem narrow_beq_zero (t : Int) : (narrow t == 0) = decide (t % 256 = 0) := by
  rw [beq_eq_decide, decide_eq_decide, ← narrow_toNat, ← BitVec.toNat_inj, show (0 : Byte).toNat = 0 from rfl]
  omega

/-- `result` of a narrowed integer reads Z and N off the integer modulo 256. -/
theorem Flags.result_narrow (f : Flags) (t : Int) :
    f.result (narrow t) = { f with Z := decide (t % 256 = 0), N := decide (128 ≤ t % 256) } := by
  rw [Flags.result, narrow_beq_zero, narrow_bit7]

/-- The sign bit says which of its two readings a byte has as a two's-complement number. -/
theorem toInt_cases (b : Byte) :
    (b.getLsbD 7 = false ∧ b.toInt = b.toNat ∧ b.toNat < 128) ∨
      (b.getLsbD 7 = true ∧ b.toInt = b.toNat - 256 ∧ 128 ≤ b.toNat) := by
  have hlt := b.isLt
  rw [bit7_eq, BitVec.toInt_eq_toNat_cond, decide_eq_true_eq, decide_eq_false_iff_not]
  split <;> omega

/-- `V_adc` of the narrowed sum is two's-complement overflow: of two addends with one sign it asks whether bit 7 of the
sum is another, and two addends with different signs never overflow. -/
theorem vAdc_narrow_sum (a m : Byte) (c : Bool) :
    vAdc a m (narrow (int a + int m + bit c)) =
      decide (a.toInt + m.toInt + (c.toNat : Int) < -128 ∨ 127 < a.toInt + m.toInt + (c.toNat : Int)) := by
  have hc := c.toNat_le
  have ha := a.isLt
  have hm := m.isLt
  rw [Bool.eq_iff_iff, vAdc_eq, narrow_bit7, bit_eq_toNat, int, int]
  obtain ⟨ha7, haInt, _⟩ | ⟨ha7, haInt, _⟩ := toInt_cases a
  all_goals
    obtain ⟨hm7, hmInt, _⟩ | ⟨hm7, hmInt, _⟩ := toInt_cases m
    all_goals
      rw [ha7, hm7, haInt, hmInt]
      simp
      omega

/-! A subtraction with borrow is the addition with carry of the complement. -/

theorem narrow_difference (a m : Byte) (c : Bool) :
    narrow (int a - int m - (1 - bit c)) = narrow (int a + int (~~~m) + bit c) := by
  apply BitVec.eq_of_toNat_eq
  have hm := m.isLt
  have hnot : (~~~m).toNat = 255 - m.toNat := BitVec.toNat_not
  zify
  rw [narrow_toNat, narrow_toNat, int, int, int, hnot]
  omega

theorem vSbc_eq_vAdc_not (a m r : Byte) : vSbc a m r = vAdc a (~~~m) r := by
  have hnot : (~~~m).getLsbD 7 = !m.getLsbD 7 := by simp
  rw [vSbc_eq, vAdc_eq, hnot]
  cases a.getLsbD 7 <;> cases m.getLsbD 7 <;> simp

theorem toInt_not : ∀ m : Byte, (~~~m).toInt = -m.toInt - 1 := by decide

/-- `V_sbc` of the narrowed difference is two's-complement overflow. -/
theorem vSbc_narrow_difference (a m : Byte) (c : Bool) :
    vSbc a m (narrow (int a - int m - (1 - bit c))) =
      decide (a.toInt - m.toInt - (1 - (c.toNat : Int)) < -128 ∨ 127 < a.toInt - m.toInt - (1 - (c.toNat : Int))) := by
  rw [vSbc_eq_vAdc_not, narrow_difference, vAdc_narrow_sum, toInt_not, decide_eq_decide]
  omega

/-! ## ADC and SBC under the default setting (R137, R138) -/

/-- The writes ADC and SBC share, with Z and N read off the integer before it is narrowed. -/
theorem setC_setV_writeA_narrow (s : State) (o : Operand) (c v : Bool) (t : Int) :
    (((s.past o).setC c).setV v).writeA (narrow t) = { s with
      pc := nextPc o s, A := narrow t,
      flags := { s.flags with C := c, Z := decide (t % 256 = 0), N := decide (128 ≤ t % 256), V := v } } := by
  rw [State.writeA, Flags.result_narrow]
  rfl

theorem opAdc_signedOverflow {r : Ref} {s : State} {m : Byte} {t : Nat} (hm : operandByte r s = m)
    (ht : int s.A + int m + bit s.flags.C = t) : opAdc .signedOverflow r s = { s with
      pc := nextPc (.ref r) s, A := BitVec.ofNat 8 t,
      flags := { s.flags with
        C := decide (255 < t), Z := decide (t % 256 = 0), N := decide (128 ≤ t % 256), V := vAdc s.A m (narrow t) } } := by
  subst hm
  rw [opAdc, ht, setC_setV_writeA_narrow, narrow_natCast]
  norm_cast

theorem opSbc_signedOverflow {r : Ref} {s : State} {m : Byte} {t : Int} (hm : operandByte r s = m)
    (ht : int s.A - int m - (1 - bit s.flags.C) = t) : opSbc .signedOverflow r s = { s with
      pc := nextPc (.ref r) s, A := BitVec.ofInt 8 t,
      flags := { s.flags with
        C := decide (0 ≤ t), Z := decide (t % 256 = 0), N := decide (128 ≤ t % 256), V := vSbc s.A m (narrow t) } } := by
  subst hm
  rw [opSbc, ht, setC_setV_writeA_narrow]
  rfl

/-- Settles O35: the handler's sum is the natural number `t`, and `V_adc` of it is the signed sum's overflow. -/
theorem adcAddsWithCarry : Obligations.AdcAddsWithCarry := by
  intro i r s hf m t signed
  have hsum : int s.A + int m + bit s.flags.C = (t : Int) := by simp [t, int, bit_eq_toNat]
  have hv : vAdc s.A m (narrow t) = decide (signed < -128 ∨ 127 < signed) :=
    hsum ▸ vAdc_narrow_sum s.A m s.flags.C
  refine ⟨mem_encodings_of_form hf, exec_of_handled hf (congrArg some ?_) nofun⟩
  exact hv ▸ opAdc_signedOverflow rfl hsum

/-- Settles O36: the handler's difference is the integer `t`, and `V_sbc` of it is the signed difference's overflow. -/
theorem sbcSubtractsWithBorrow : Obligations.SbcSubtractsWithBorrow := by
  intro i r s hf m t signed
  have hdiff : int s.A - int m - (1 - bit s.flags.C) = t := by rw [bit_eq_toNat]; rfl
  have hv : vSbc s.A m (narrow t) = decide (signed < -128 ∨ 127 < signed) :=
    hdiff ▸ vSbc_narrow_difference s.A m s.flags.C
  refine ⟨mem_encodings_of_form hf, exec_of_handled hf (congrArg some ?_) nofun⟩
  exact hv ▸ opSbc_signedOverflow rfl hdiff

/-! ## Logic and BIT (R139 to R142) -/

/-- Settles O37: the pairs listed are the mnemonic's `encodings`, and the bits of the written byte are those of the bitwise
operation. -/
theorem logicAndBitTest : Obligations.LogicAndBitTest :=
  fun _ _ _ =>
    ⟨fun hf => ⟨mem_encodings_of_form hf, _, fun _ _ => BitVec.getLsbD_and, exec_of_handled hf rfl nofun⟩,
      fun hf => ⟨mem_encodings_of_form hf, _, fun _ _ => BitVec.getLsbD_or, exec_of_handled hf rfl nofun⟩,
      fun hf => ⟨mem_encodings_of_form hf, _, fun _ _ => BitVec.getLsbD_xor, exec_of_handled hf rfl nofun⟩,
      fun hf => ⟨mem_encodings_of_form hf, exec_of_handled hf rfl nofun⟩⟩

/-! ## The compares (R143 to R145) -/

/-- Z compares the two bytes, since their wrapped difference is 0 where they are equal and nowhere else. -/
theorem Flags.compare_eq_comparisons (f : Flags) (reg m : Byte) : f.compare reg m =
    { f with C := decide (m.toNat ≤ reg.toNat), Z := decide (reg = m), N := (reg - m).getLsbD 7 } := by
  have hz : (reg - m == 0) = decide (reg = m) := by
    rw [beq_eq_decide, decide_eq_decide]
    exact sub_eq_zero
  rw [compare_eq, Flags.result, hz]

/-- The meaning the three compares share, each with its register as `reg`. -/
theorem exec_of_compare {i : Instr} {m : Mnemonic} {r : Ref} {s : State} {reg : Byte} (hf : i.form = some (m, .ref r))
    (h : handled defaultConfig m (.ref r) s =
      some { s.past (.ref r) with flags := s.flags.compare reg (operandByte r s) }) (hm : m ≠ .RTI) :
    exec i s = .next { s with
      pc := nextPc (.ref r) s,
      flags := { s.flags with
        C := decide ((operandByte r s).toNat ≤ reg.toNat), Z := decide (reg = operandByte r s),
        N := (reg - operandByte r s).getLsbD 7 } } := by
  rw [← Flags.compare_eq_comparisons]
  exact exec_of_handled hf h hm

/-- Settles O38: the pairs listed are the mnemonic's `encodings`, and each handler is `Flags.compare` of its register. -/
theorem comparesSetCarryZeroNegative : Obligations.ComparesSetCarryZeroNegative :=
  fun _ _ _ =>
    ⟨fun hf => ⟨mem_encodings_of_form hf, exec_of_compare hf rfl nofun⟩,
      fun hf => ⟨mem_encodings_of_form hf, exec_of_compare hf rfl nofun⟩,
      fun hf => ⟨mem_encodings_of_form hf, exec_of_compare hf rfl nofun⟩⟩

/-! ## The PRESERVE setting (R136, decision D5) -/

theorem perform_of_unimplemented {c : Config} {m : Mnemonic} (hm : m ∈ c.unimplemented) (o : Operand) (s : State) :
    perform c m o s = .next (s.raise (.unimplementedMnemonic m s.pc)) := by
  simp [perform, hm]

/-- No handler but those of ADC and SBC reads `ARITH_V`. -/
theorem catalogue_arithV {m : Mnemonic} (hadc : m ≠ .ADC) (hsbc : m ≠ .SBC) (c : Config) (v : ArithV) :
    catalogue { c with arithV := v } m = catalogue c m := by
  cases m with
  | ADC => exact (hadc rfl).elim
  | SBC => exact (hsbc rfl).elim
  | _ => rfl

theorem perform_arithV {m : Mnemonic} (hadc : m ≠ .ADC) (hsbc : m ≠ .SBC) (c : Config) (v : ArithV) (o : Operand)
    (s : State) : perform { c with arithV := v } m o s = perform c m o s := by
  unfold perform
  rw [catalogue_arithV hadc hsbc]

/-- The handlers of ADC and SBC put the value before into V and else do the same. -/
theorem handled_preserve {c : Config} {m : Mnemonic} {o : Operand} {s t : State} (hm : m = .ADC ∨ m = .SBC)
    (h : handled { c with arithV := .signedOverflow } m o s = some t) :
    handled { c with arithV := .preserve } m o s = some (t.setV s.flags.V) := by
  cases o with
  | imp => rcases hm with rfl | rfl <;> cases h
  | ref r => rcases hm with rfl | rfl <;> cases h <;> rfl

/-- Under PRESERVE every answer of ADC and SBC has the V before: a halt's does so already. -/
theorem perform_preserve {c : Config} {m : Mnemonic} {o : Operand} {s t : State} (hm : m = .ADC ∨ m = .SBC)
    (h : perform { c with arithV := .signedOverflow } m o s = .next t) :
    perform { c with arithV := .preserve } m o s = .next (t.setV s.flags.V) := by
  rcases perform_cases h with ⟨hu, rfl⟩ | ⟨hu, hh⟩ | ⟨hu, rfl, _, rfl⟩
  · exact perform_of_unimplemented (c := { c with arithV := .preserve }) hu o s
  · exact perform_of_handled hu (handled_preserve hm hh)
  · rcases hm with rfl | rfl <;> exact perform_of_missing_address hu rfl s

/-- Settles O20: both settings take the same branch of the step, and it reads the setting only in the handlers of ADC and
SBC. -/
theorem preserveSettingKeepsOnlyV : Obligations.PreserveSettingKeepsOnlyV := by
  intro c s t m code he h
  obtain ⟨hc, hr, ⟨hnone, _⟩ | ⟨m', code', he', hcode, rfl⟩ | ⟨m', mode, he', hp⟩⟩ := stepWith_cases h
  · cases he.symm.trans hnone
  · have hstep := stepWith_of_entry_unrecognised (c := { c with arithV := .preserve }) hc hr he' hcode
    exact ⟨fun _ => hstep, fun _ _ => hstep⟩
  · cases he.symm.trans he'
    rw [stepWith_of_entry_known (c := { c with arithV := .preserve }) hc hr he']
    refine ⟨fun hm => perform_preserve hm hp, fun hadc hsbc => ?_⟩
    rw [perform_arithV hadc hsbc] at hp ⊢
    exact hp

end Sys2Proof.Machine
end

section
/-!
PROOFS. Increment and decrement (44_incdec.md): each handler narrows its integer count, which is the count modulo 256
(`narrow_inc`, `narrow_dec`).
-/

namespace Sys2Proof.Machine

/-- Settles O39: the pairs listed are the mnemonic's `encodings`, and its handler stores `result` of the count at the
effective address. -/
theorem memoryIncrementsAndDecrements : Obligations.MemoryIncrementsAndDecrements := by
  refine fun i r s v => ⟨fun hf hv => ⟨mem_encodings_of_form hf, ?_⟩, fun hf hv => ⟨mem_encodings_of_form hf, ?_⟩⟩
  · rw [hv, ← narrow_inc]
    exact exec_of_handled hf rfl nofun
  · rw [hv, ← narrow_dec]
    exact exec_of_handled hf rfl nofun

/-- Settles O40: each handler moves pc past the opcode byte and writes the count through `result`. -/
theorem registerIncrementsAndDecrements : Obligations.RegisterIncrementsAndDecrements :=
  fun s =>
    ⟨⟨rfl, narrow_inc s.X ▸ exec_of_handled rfl rfl nofun⟩,
      ⟨rfl, narrow_inc s.Y ▸ exec_of_handled rfl rfl nofun⟩,
      ⟨rfl, narrow_dec s.X ▸ exec_of_handled rfl rfl nofun⟩,
      ⟨rfl, narrow_dec s.Y ▸ exec_of_handled rfl rfl nofun⟩⟩

end Sys2Proof.Machine
end

section
/-!
PROOFS. Shifts and rotates (45_shift.md): what each computes of its operand, said once for A and for the byte at the
effective address (R160).
-/

namespace Sys2Proof.Machine

/-! ## Bit 7 of a right shift (R162, R164) -/

theorem shiftRight_bit7 : ∀ b : Byte, (b >>> 1 &&& 0x7F).getLsbD 7 = false := by decide

theorem rotateRight_bit7 : ∀ (b : Byte) (c : Bool), (b >>> 1 ||| bitByte c <<< 7).getLsbD 7 = c := by decide

/-! ## The four instructions, for every operand (R161 to R164) -/

theorem setC_putOperand (o : Operand) (v : Byte) (c : Bool) (s : State) : (putOperand o v s).setC c =
    { putOperand o v s with flags := { s.flags with C := c, Z := v == 0, N := v.getLsbD 7 } } := by
  cases o with
  | imp => rfl
  | ref r => rfl

section
variable {i : Instr} {o : Operand} {s : State} {v : Byte}

theorem exec_asl (hf : i.form = some (.ASL, o)) (hv : v = BitVec.ofNat 8 (2 * (getOperand o s).toNat)) :
    exec i s = .next { putOperand o v s with
      flags := { s.flags with C := decide (0x7F < (getOperand o s).toNat), Z := v == 0, N := v.getLsbD 7 } } := by
  rw [hv, ← shiftLeft_one_eq, ← setC_putOperand]
  exact exec_of_handled hf rfl nofun

theorem exec_lsr (hf : i.form = some (.LSR, o)) (hv : v = BitVec.ofNat 8 ((getOperand o s).toNat / 2)) :
    exec i s = .next { putOperand o v s with
      flags := { s.flags with C := (getOperand o s).getLsbD 0, Z := v == 0, N := false } } := by
  rw [hv, ← shiftRight_one_eq, ← shiftRight_bit7 (getOperand o s), ← setC_putOperand]
  exact exec_of_handled hf rfl nofun

theorem exec_rol (hf : i.form = some (.ROL, o))
    (hv : v = BitVec.ofNat 8 (2 * (getOperand o s).toNat + s.flags.C.toNat)) :
    exec i s = .next { putOperand o v s with
      flags := { s.flags with C := (getOperand o s).getLsbD 7, Z := v == 0, N := v.getLsbD 7 } } := by
  rw [hv, ← rotateLeft_eq, ← setC_putOperand]
  exact exec_of_handled hf rfl nofun

theorem exec_ror (hf : i.form = some (.ROR, o))
    (hv : v = BitVec.ofNat 8 ((getOperand o s).toNat / 2 + 128 * s.flags.C.toNat)) :
    exec i s = .next { putOperand o v s with
      flags := { s.flags with C := (getOperand o s).getLsbD 0, Z := v == 0, N := s.flags.C } } := by
  have hn : v.getLsbD 7 = s.flags.C := by rw [hv, ← rotateRight_eq, rotateRight_bit7]
  rw [← hn, ← setC_putOperand, hv, ← rotateRight_eq]
  exact exec_of_handled hf rfl nofun

end

/-- Settles O41: `putOperand` without an operand writes A and moves pc past the opcode byte. -/
theorem shiftsAndRotatesOfTheAccumulator : Obligations.ShiftsAndRotatesOfTheAccumulator :=
  fun _ _ =>
    ⟨fun hv => ⟨rfl, exec_asl (o := .imp) rfl hv⟩,
      fun hv => ⟨rfl, exec_lsr (o := .imp) rfl hv⟩,
      fun hv => ⟨rfl, exec_rol (o := .imp) rfl hv⟩,
      fun hv => ⟨rfl, exec_ror (o := .imp) rfl hv⟩⟩

/-- A form with an operand is one of the mnemonic's entries that are not Implicit (R91). -/
theorem mem_memory_encodings_of_form {i : Instr} {m : Mnemonic} {r : Ref} (hf : i.form = some (m, .ref r)) :
    (r.mode, i.opcode) ∈ m.encodings.filter fun e => e.1 != .imp :=
  List.mem_filter.2 ⟨mem_encodings_of_form hf, by cases r <;> rfl⟩

/-- Settles O42: the pairs listed are the mnemonic's `encodings` that are not Implicit, and `putOperand` stores at the
effective address. -/
theorem shiftsAndRotatesOfMemory : Obligations.ShiftsAndRotatesOfMemory :=
  fun _ _ _ _ =>
    ⟨fun hf hv => ⟨mem_memory_encodings_of_form hf, exec_asl hf hv⟩,
      fun hf hv => ⟨mem_memory_encodings_of_form hf, exec_lsr hf hv⟩,
      fun hf hv => ⟨mem_memory_encodings_of_form hf, exec_rol hf hv⟩,
      fun hf hv => ⟨mem_memory_encodings_of_form hf, exec_ror hf hv⟩⟩

end Sys2Proof.Machine
end

section
/-!
PROOFS. The flag instructions (46_flags.md).
-/

namespace Sys2Proof.Machine

/-- Settles O43: each handler moves pc past the opcode byte and then sets its one flag (R170). -/
theorem flagInstructionsWriteOneFlag : Obligations.FlagInstructionsWriteOneFlag :=
  fun s =>
    ⟨⟨rfl, exec_of_handled (t := (s.past .imp).setC false) rfl rfl nofun⟩,
      ⟨rfl, exec_of_handled (t := (s.past .imp).setC true) rfl rfl nofun⟩,
      ⟨rfl, exec_of_handled (t := (s.past .imp).setI false) rfl rfl nofun⟩,
      ⟨rfl, exec_of_handled (t := (s.past .imp).setI true) rfl rfl nofun⟩,
      ⟨rfl, exec_of_handled (t := (s.past .imp).setD false) rfl rfl nofun⟩,
      ⟨rfl, exec_of_handled (t := (s.past .imp).setD true) rfl rfl nofun⟩,
      ⟨rfl, exec_of_handled (t := (s.past .imp).setV false) rfl rfl nofun⟩⟩

end Sys2Proof.Machine
end

section
/-!
PROOFS. Jumps, calls, returns and branches (47_control.md), BRK, RTI and NOP (48_system.md).
-/

namespace Sys2Proof.Machine

/-! ## Jumps, calls and returns (R181 to R183) -/

theorem eq_int16_of_toNat {lo hi : Byte} {a : Address} (h : a.toNat = lo.toNat + 256 * hi.toNat) :
    a = int16 lo hi := by
  apply BitVec.eq_of_toNat_eq
  rw [h, int16_toNat]
  omega

/-- The bytes of an address add up to it, as the spec writes `int16` (R52). -/
theorem lowByte_add_highByte (a : Address) : (lowByte a).toNat + 256 * (highByte a).toNat = a.toNat := by
  rw [lowByte_toNat, highByte_toNat]
  omega

/-- A call as one update of the state (R50): two bytes written, sp and pc moved. -/
theorem State.jsr_eq (s : State) (a : Address) : s.jsr a = { s with
    pc := a
    sp := s.sp - 2
    mem := Memory.write (Memory.write s.mem (stackAddress s.sp) (lowByte s.pc)) (stackAddress (s.sp - 1))
      (highByte s.pc) } := by
  rw [← State.jsr_sp s a]
  rfl

/-- Settles O44: JMP and JSR go to `int16` of their operand bytes, JSR after pushing the two bytes of pc0 + 3; RTS goes to
`int16` of the two bytes it pulls. -/
theorem jumpsCallsAndReturns : Obligations.JumpsCallsAndReturns := by
  intro lo hi s target htarget
  obtain rfl := eq_int16_of_toNat htarget
  refine ⟨⟨rfl, exec_of_handled rfl rfl nofun⟩, ⟨rfl, lowByte (s.pc + 3), highByte (s.pc + 3), ?_, ?_⟩, rfl, ?_⟩
  · rw [lowByte_add_highByte, BitVec.toNat_add]
    rfl
  · rw [exec_jsr, State.jsr_eq]
    rfl
  · intro hhi hlo
    have hsp : s.sp + 1 + 1 = s.sp + 2 := BitVec.add_assoc _ _ _
    rw [exec_rts, hsp, stackAddress, stackAddress, hhi, hlo]

/-! ## Branches (R184 to R192) -/

/-- The branch target in integers, as the spec's decision D1 writes it. -/
theorem eq_effectiveAddress_rel_of_toNat {o : Byte} {s : State} {a : Address} (h : (a.toNat : Int) =
    ((s.pc.toNat : Int) + 2 + (if o.toNat < 0x80 then (o.toNat : Int) else o.toNat - 256)) % 65536) :
    a = effectiveAddress (.rel o) s := by
  apply BitVec.eq_of_toNat_eq
  rw [← sext16_toInt_eq, ← effectiveAddress_rel_toNat] at h
  exact Int.ofNat_inj.1 h

/-- A Relative form whose handler is `State.branch` past the offset byte, under the condition `p`. -/
theorem exec_branch {i : Instr} {m : Mnemonic} {o : Byte} {s : State} {cond : Bool} {p : Prop} [Decidable p]
    (hf : i.form = some (m, .ref (.rel o))) (hm : m ≠ .RTI)
    (hh : handled defaultConfig m (.ref (.rel o)) s =
      some ((s.past (.ref (.rel o))).branch cond (effectiveAddress (.rel o) s)))
    (hp : cond = true ↔ p) :
    exec i s = .next { s with pc := if p then effectiveAddress (.rel o) s else s.pc + 2 } := by
  rw [exec_of_handled hf hh hm, State.branch_eq_jump]
  simp only [hp]
  rfl

/-- Settles O45: each handler is `State.branch` with the flag its mnemonic tests. -/
theorem branchesTestTheirFlag : Obligations.BranchesTestTheirFlag := by
  intro o s target htarget
  obtain rfl := eq_effectiveAddress_rel_of_toNat htarget
  have hclear (f : Bool) : (!f) = true ↔ f = false := iff_of_eq (Bool.not_eq_true' f)
  exact
    ⟨⟨rfl, exec_branch rfl nofun rfl (hclear _)⟩,
      ⟨rfl, exec_branch rfl nofun rfl .rfl⟩,
      ⟨rfl, exec_branch rfl nofun rfl .rfl⟩,
      ⟨rfl, exec_branch rfl nofun rfl (hclear _)⟩,
      ⟨rfl, exec_branch rfl nofun rfl .rfl⟩,
      ⟨rfl, exec_branch rfl nofun rfl (hclear _)⟩,
      ⟨rfl, exec_branch rfl nofun rfl (hclear _)⟩,
      ⟨rfl, exec_branch rfl nofun rfl .rfl⟩⟩

/-! ## BRK, NOP, RTI and the row of 0x6C -/

/-- Settles O46: BRK raises its halt past the opcode byte, NOP only goes past it. -/
theorem breakHaltsAndNopDoesNothing : Obligations.BreakHaltsAndNopDoesNothing :=
  fun s =>
    ⟨⟨rfl, exec_of_handled (t := (s.past .imp).raise (.brk s.pc)) rfl rfl nofun⟩,
      ⟨rfl, exec_of_handled (t := s.past .imp) rfl rfl nofun⟩⟩

/-- Settles O47: RTI is in the default unimplemented set, and the row of 0x6C is the one without a table entry. -/
theorem rtiAndIndirectJumpHaltPrecisely : Obligations.RtiAndIndirectJumpHaltPrecisely :=
  fun _ _ s =>
    ⟨⟨rfl, (exec_of_form rfl s).trans (perform_of_unimplemented (List.mem_singleton_self _) .imp s)⟩,
      rfl, rfl, exec_of_form_none rfl s⟩

end Sys2Proof.Machine
end

section
/-!
PROOFS. Exceptions and reset (60_exceptions.md, 70_reset_and_hazards.md): the halts of a step, the HALTED engine, the memory
after creation.
-/

namespace Sys2Proof.Machine

/-! ## The RUNNING engine -/

/-- Settles O9: the default configuration is accepted, and under an accepted one a RUNNING engine steps. -/
theorem runningEngineAlwaysSteps : Obligations.RunningEngineAlwaysSteps := by
  intro s hr
  rw [stepIsTheParametricEngineAtDefaults s]
  exact stepWith_next_of_running defaultConfig_accepted hr

/-- Settles O7: the fetch decodes to nothing at exactly these bytes. -/
theorem stepHaltsOnUnknownOpcode : Obligations.StepHaltsOnUnknownOpcode :=
  fun _ hr hbyte => step_of_fetch_none hr ((decodeRefusesExactlyTheUnlistedBytes _ _ _).2 hbyte)

/-- Settles O16: the entry's mode resolves, and the unimplemented check is the next. -/
theorem unimplementedSetHalts : Obligations.UnimplementedSetHalts := by
  intro c s m mode hc hr he hm
  rw [stepWith_of_entry_known hc hr he]
  exact perform_of_unimplemented hm _ s

/-! ## Fatal halts (R218) -/

/-- The only handler that halts is BRK's, with the reason that is not fatal (R200). -/
theorem reason_of_handled_halts {c : Config} {m : Mnemonic} {o : Operand} {s t : State} {reason : HaltReason}
    (hr : s.run = .running) (h : handled c m o s = some t) (ht : t.run = .halted reason) : reason = .brk s.pc := by
  have hm : m = .BRK := by
    obtain ⟨e, ⟨hme, _⟩, rfl, _⟩ := handled_hasEffect h
    obtain ⟨_, _, _, _, hrun⟩ := e.apply_registers (s.past o)
    have hsub : e.mnemonics ⊆ [.BRK] := hrun.resolve_left (by rw [ht, State.past_run, hr]; nofun)
    exact List.mem_singleton.1 (hsub hme)
  subst hm
  cases h
  cases ht
  rfl

/-- A halt raised on `s` with `s`'s own pc in its payload is precise. -/
theorem raise_precise {s : State} {raised reason : HaltReason} (hpc : raised.pc0 = s.pc)
    (ht : (s.raise raised).run = .halted reason) :
    s.raise raised = { s with run := .halted reason } ∧ reason.pc0 = s.pc := by
  cases ht
  exact ⟨rfl, hpc⟩

/-- Settles O10: every halt of a step but BRK's is raised on the state before the fetch. -/
theorem fatalHaltsArePrecise : Obligations.FatalHaltsArePrecise := by
  intro c s t reason h ht hfatal
  obtain ⟨_, hr, ⟨_, rfl⟩ | ⟨_, _, _, _, rfl⟩ | ⟨_, _, _, hp⟩⟩ := stepWith_cases h
  · exact raise_precise rfl ht
  · exact raise_precise rfl ht
  · rcases perform_cases hp with ⟨_, rfl⟩ | ⟨_, hh⟩ | ⟨_, _, _, rfl⟩
    · exact raise_precise rfl ht
    · rw [reason_of_handled_halts hr hh ht] at hfatal
      cases hfatal
    · exact raise_precise rfl ht

/-! ## The HALTED engine and the state after creation -/

/-- Settles O8: a HALTED engine faults, and a run of it ends where it is. -/
theorem haltedEngineStaysHalted : Obligations.HaltedEngineStaysHalted :=
  fun _ _ hr => ⟨step_of_halted hr, runFor_of_halted defaultConfig_accepted hr⟩

/-- Settles O53: the list without entries is canonical and reads 0x00 everywhere. -/
theorem resetMemoryIsCanonical : Obligations.ResetMemoryIsCanonical :=
  ⟨State.reset_wf, Memory.read_nil⟩

end Sys2Proof.Machine
end
